-- ==== Sys2Proof/Word.lean ====
section
/-! DEFINITION. The two widths of value the block handles (00_scope.md R7): bytes and 16-bit words. -/

namespace Sys2Proof

/-- An 8-bit value: a register, a memory byte, an opcode, an immediate `n` or `e`. -/
abbrev Byte := BitVec 8

/-- A 16-bit value: SP, PC, a register pair, an address, an immediate `nn`. -/
abbrev Word := BitVec 16

end Sys2Proof
end

