-- ==== Sys2Proof/Syntax.lean ====
section
/-! DEFINITION. The syntax: the operand codes of 30_encoding.md R114 to R118 as names, and `Instr`, one constructor per
row of opcode_table.json (256 primary rows, 256 escape rows). A constructor's docstring gives the row's opcode bytes, its
assembler spelling (R131) and the rule of its semantics. An operand is what decode reads after the opcode: `n` and `nn`
are immediates, `e` a signed displacement as a byte (R113). STOP and ADD SP,e have no operand, because decode faults
before their second byte is read (R404, R313). -/

namespace Sys2Proof

/-- The seven 8-bit registers (R31). -/
inductive Reg8 where
  | a | b | c | d | e | h | l
  deriving DecidableEq, Repr

/-- What an `r` field names (R114): a register, or the byte at HL for code 6. -/
inductive R8 where
  /-- Codes 0 to 5 and 7. -/
  | reg (r : Reg8)
  /-- Code 6, `(HL)`. -/
  | atHL
  deriving DecidableEq, Repr

/-- What a `dd` field names (R115). -/
inductive Pair where
  | bc | de | hl | sp
  deriving DecidableEq, Repr

/-- What a `qq` field names (R116). -/
inductive StackPair where
  | bc | de | hl | af
  deriving DecidableEq, Repr

/-- What a `cc` field names (R117). -/
inductive Cond where
  | nz | z | nc | c
  deriving DecidableEq, Repr

/-- The eight operations of the ALU block (R121). -/
inductive AluOp where
  | add | adc | sub | sbc | and | xor | or | cp
  deriving DecidableEq, Repr

/-- The eight operations of the escape table's first quarter (R125). -/
inductive RotOp where
  | rlc | rrc | rl | rr | sla | sra | swap | srl
  deriving DecidableEq, Repr

/-- A 3-bit field: the bit index `b` or the restart index `t` (R118). -/
inductive Idx3 where
  | i0 | i1 | i2 | i3 | i4 | i5 | i6 | i7
  deriving DecidableEq, Repr

/-- The instructions, one constructor per row of opcode_table.json: first the rows with an operand, then the rest, each
in the table's order. -/
inductive Instr where
  /-- 01: LD BC,nn (R242). -/
  | ldBCImm16 (nn : Word)
  /-- 06: LD B,n (R203). -/
  | ldBImm (n : Byte)
  /-- 08: LD (nn),SP (R243). -/
  | ldAtImm16SP (nn : Word)
  /-- 0E: LD C,n (R203). -/
  | ldCImm (n : Byte)
  /-- 11: LD DE,nn (R242). -/
  | ldDEImm16 (nn : Word)
  /-- 16: LD D,n (R203). -/
  | ldDImm (n : Byte)
  /-- 18: JR e (R374). -/
  | jrDisp (e : Byte)
  /-- 1E: LD E,n (R203). -/
  | ldEImm (n : Byte)
  /-- 20: JR NZ,e (R375). -/
  | jrNZDisp (e : Byte)
  /-- 21: LD HL,nn (R242). -/
  | ldHLImm16 (nn : Word)
  /-- 26: LD H,n (R203). -/
  | ldHImm (n : Byte)
  /-- 28: JR Z,e (R375). -/
  | jrZDisp (e : Byte)
  /-- 2E: LD L,n (R203). -/
  | ldLImm (n : Byte)
  /-- 30: JR NC,e (R375). -/
  | jrNCDisp (e : Byte)
  /-- 31: LD SP,nn (R242). -/
  | ldSPImm16 (nn : Word)
  /-- 36: LD (HL),n (R204). -/
  | ldAtHLImm (n : Byte)
  /-- 38: JR C,e (R375). -/
  | jrCDisp (e : Byte)
  /-- 3E: LD A,n (R203). -/
  | ldAImm (n : Byte)
  /-- C2: JP NZ,nn (R371). -/
  | jpNZImm16 (nn : Word)
  /-- C3: JP nn (R370). -/
  | jpImm16 (nn : Word)
  /-- C4: CALL NZ,nn (R377). -/
  | callNZImm16 (nn : Word)
  /-- C6: ADD A,n (R272). -/
  | addAImm (n : Byte)
  /-- CA: JP Z,nn (R371). -/
  | jpZImm16 (nn : Word)
  /-- CB: prefix CB (R406). -/
  | prefixCB (op2 : Byte)
  /-- CC: CALL Z,nn (R377). -/
  | callZImm16 (nn : Word)
  /-- CD: CALL nn (R376). -/
  | callImm16 (nn : Word)
  /-- CE: ADC A,n (R275). -/
  | adcAImm (n : Byte)
  /-- D2: JP NC,nn (R371). -/
  | jpNCImm16 (nn : Word)
  /-- D4: CALL NC,nn (R377). -/
  | callNCImm16 (nn : Word)
  /-- D6: SUB n (R278). -/
  | subImm (n : Byte)
  /-- DA: JP C,nn (R371). -/
  | jpCImm16 (nn : Word)
  /-- DC: CALL C,nn (R377). -/
  | callCImm16 (nn : Word)
  /-- DE: SBC A,n (R281). -/
  | sbcAImm (n : Byte)
  /-- E0: LDH (n),A (R212). -/
  | ldhAtImmA (n : Byte)
  /-- E6: AND n (R284). -/
  | andImm (n : Byte)
  /-- EA: LD (nn),A (R210). -/
  | ldAtImm16A (nn : Word)
  /-- EE: XOR n (R287). -/
  | xorImm (n : Byte)
  /-- F0: LDH A,(n) (R211). -/
  | ldhAAtImm (n : Byte)
  /-- F6: OR n (R290). -/
  | orImm (n : Byte)
  /-- F8: LD HL,SP+e (R245). -/
  | ldHLSPDisp (e : Byte)
  /-- FA: LD A,(nn) (R209). -/
  | ldAAtImm16 (nn : Word)
  /-- FE: CP n (R293). -/
  | cpImm (n : Byte)
  /-- 00: NOP (R400). -/
  | nop
  /-- 02: LD (BC),A (R207). -/
  | ldAtBCA
  /-- 03: INC BC (R311). -/
  | incBC
  /-- 04: INC B (R294). -/
  | incB
  /-- 05: DEC B (R296). -/
  | decB
  /-- 07: RLCA (R330). -/
  | rlca
  /-- 09: ADD HL,BC (R310). -/
  | addHLBC
  /-- 0A: LD A,(BC) (R205). -/
  | ldAAtBC
  /-- 0B: DEC BC (R312). -/
  | decBC
  /-- 0C: INC C (R294). -/
  | incC
  /-- 0D: DEC C (R296). -/
  | decC
  /-- 0F: RRCA (R331). -/
  | rrca
  /-- 10: STOP (R404). -/
  | stop
  /-- 12: LD (DE),A (R208). -/
  | ldAtDEA
  /-- 13: INC DE (R311). -/
  | incDE
  /-- 14: INC D (R294). -/
  | incD
  /-- 15: DEC D (R296). -/
  | decD
  /-- 17: RLA (R332). -/
  | rla
  /-- 19: ADD HL,DE (R310). -/
  | addHLDE
  /-- 1A: LD A,(DE) (R206). -/
  | ldAAtDE
  /-- 1B: DEC DE (R312). -/
  | decDE
  /-- 1C: INC E (R294). -/
  | incE
  /-- 1D: DEC E (R296). -/
  | decE
  /-- 1F: RRA (R333). -/
  | rra
  /-- 22: LD (HL+),A (R217). -/
  | ldAtHLIncA
  /-- 23: INC HL (R311). -/
  | incHL
  /-- 24: INC H (R294). -/
  | incH
  /-- 25: DEC H (R296). -/
  | decH
  /-- 27: DAA (R298). -/
  | daa
  /-- 29: ADD HL,HL (R310). -/
  | addHLHL
  /-- 2A: LD A,(HL+) (R215). -/
  | ldAAtHLInc
  /-- 2B: DEC HL (R312). -/
  | decHL
  /-- 2C: INC L (R294). -/
  | incL
  /-- 2D: DEC L (R296). -/
  | decL
  /-- 2F: CPL (R299). -/
  | cpl
  /-- 32: LD (HL-),A (R218). -/
  | ldAtHLDecA
  /-- 33: INC SP (R311). -/
  | incSP
  /-- 34: INC (HL) (R295). -/
  | incAtHL
  /-- 35: DEC (HL) (R297). -/
  | decAtHL
  /-- 37: SCF (R300). -/
  | scf
  /-- 39: ADD HL,SP (R310). -/
  | addHLSP
  /-- 3A: LD A,(HL-) (R216). -/
  | ldAAtHLDec
  /-- 3B: DEC SP (R312). -/
  | decSP
  /-- 3C: INC A (R294). -/
  | incA
  /-- 3D: DEC A (R296). -/
  | decA
  /-- 3F: CCF (R301). -/
  | ccf
  /-- 40: LD B,B (R200). -/
  | ldBB
  /-- 41: LD B,C (R200). -/
  | ldBC
  /-- 42: LD B,D (R200). -/
  | ldBD
  /-- 43: LD B,E (R200). -/
  | ldBE
  /-- 44: LD B,H (R200). -/
  | ldBH
  /-- 45: LD B,L (R200). -/
  | ldBL
  /-- 46: LD B,(HL) (R201). -/
  | ldBAtHL
  /-- 47: LD B,A (R200). -/
  | ldBA
  /-- 48: LD C,B (R200). -/
  | ldCB
  /-- 49: LD C,C (R200). -/
  | ldCC
  /-- 4A: LD C,D (R200). -/
  | ldCD
  /-- 4B: LD C,E (R200). -/
  | ldCE
  /-- 4C: LD C,H (R200). -/
  | ldCH
  /-- 4D: LD C,L (R200). -/
  | ldCL
  /-- 4E: LD C,(HL) (R201). -/
  | ldCAtHL
  /-- 4F: LD C,A (R200). -/
  | ldCA
  /-- 50: LD D,B (R200). -/
  | ldDB
  /-- 51: LD D,C (R200). -/
  | ldDC
  /-- 52: LD D,D (R200). -/
  | ldDD
  /-- 53: LD D,E (R200). -/
  | ldDE
  /-- 54: LD D,H (R200). -/
  | ldDH
  /-- 55: LD D,L (R200). -/
  | ldDL
  /-- 56: LD D,(HL) (R201). -/
  | ldDAtHL
  /-- 57: LD D,A (R200). -/
  | ldDA
  /-- 58: LD E,B (R200). -/
  | ldEB
  /-- 59: LD E,C (R200). -/
  | ldEC
  /-- 5A: LD E,D (R200). -/
  | ldED
  /-- 5B: LD E,E (R200). -/
  | ldEE
  /-- 5C: LD E,H (R200). -/
  | ldEH
  /-- 5D: LD E,L (R200). -/
  | ldEL
  /-- 5E: LD E,(HL) (R201). -/
  | ldEAtHL
  /-- 5F: LD E,A (R200). -/
  | ldEA
  /-- 60: LD H,B (R200). -/
  | ldHB
  /-- 61: LD H,C (R200). -/
  | ldHC
  /-- 62: LD H,D (R200). -/
  | ldHD
  /-- 63: LD H,E (R200). -/
  | ldHE
  /-- 64: LD H,H (R200). -/
  | ldHH
  /-- 65: LD H,L (R200). -/
  | ldHL
  /-- 66: LD H,(HL) (R201). -/
  | ldHAtHL
  /-- 67: LD H,A (R200). -/
  | ldHA
  /-- 68: LD L,B (R200). -/
  | ldLB
  /-- 69: LD L,C (R200). -/
  | ldLC
  /-- 6A: LD L,D (R200). -/
  | ldLD
  /-- 6B: LD L,E (R200). -/
  | ldLE
  /-- 6C: LD L,H (R200). -/
  | ldLH
  /-- 6D: LD L,L (R200). -/
  | ldLL
  /-- 6E: LD L,(HL) (R201). -/
  | ldLAtHL
  /-- 6F: LD L,A (R200). -/
  | ldLA
  /-- 70: LD (HL),B (R202). -/
  | ldAtHLB
  /-- 71: LD (HL),C (R202). -/
  | ldAtHLC
  /-- 72: LD (HL),D (R202). -/
  | ldAtHLD
  /-- 73: LD (HL),E (R202). -/
  | ldAtHLE
  /-- 74: LD (HL),H (R202). -/
  | ldAtHLH
  /-- 75: LD (HL),L (R202). -/
  | ldAtHLL
  /-- 76: HALT (R403). -/
  | halt
  /-- 77: LD (HL),A (R202). -/
  | ldAtHLA
  /-- 78: LD A,B (R200). -/
  | ldAB
  /-- 79: LD A,C (R200). -/
  | ldAC
  /-- 7A: LD A,D (R200). -/
  | ldAD
  /-- 7B: LD A,E (R200). -/
  | ldAE
  /-- 7C: LD A,H (R200). -/
  | ldAH
  /-- 7D: LD A,L (R200). -/
  | ldAL
  /-- 7E: LD A,(HL) (R201). -/
  | ldAAtHL
  /-- 7F: LD A,A (R200). -/
  | ldAA
  /-- 80: ADD A,B (R270). -/
  | addAB
  /-- 81: ADD A,C (R270). -/
  | addAC
  /-- 82: ADD A,D (R270). -/
  | addAD
  /-- 83: ADD A,E (R270). -/
  | addAE
  /-- 84: ADD A,H (R270). -/
  | addAH
  /-- 85: ADD A,L (R270). -/
  | addAL
  /-- 86: ADD A,(HL) (R271). -/
  | addAAtHL
  /-- 87: ADD A,A (R270). -/
  | addAA
  /-- 88: ADC A,B (R273). -/
  | adcAB
  /-- 89: ADC A,C (R273). -/
  | adcAC
  /-- 8A: ADC A,D (R273). -/
  | adcAD
  /-- 8B: ADC A,E (R273). -/
  | adcAE
  /-- 8C: ADC A,H (R273). -/
  | adcAH
  /-- 8D: ADC A,L (R273). -/
  | adcAL
  /-- 8E: ADC A,(HL) (R274). -/
  | adcAAtHL
  /-- 8F: ADC A,A (R273). -/
  | adcAA
  /-- 90: SUB B (R276). -/
  | subB
  /-- 91: SUB C (R276). -/
  | subC
  /-- 92: SUB D (R276). -/
  | subD
  /-- 93: SUB E (R276). -/
  | subE
  /-- 94: SUB H (R276). -/
  | subH
  /-- 95: SUB L (R276). -/
  | subL
  /-- 96: SUB (HL) (R277). -/
  | subAtHL
  /-- 97: SUB A (R276). -/
  | subA
  /-- 98: SBC A,B (R279). -/
  | sbcAB
  /-- 99: SBC A,C (R279). -/
  | sbcAC
  /-- 9A: SBC A,D (R279). -/
  | sbcAD
  /-- 9B: SBC A,E (R279). -/
  | sbcAE
  /-- 9C: SBC A,H (R279). -/
  | sbcAH
  /-- 9D: SBC A,L (R279). -/
  | sbcAL
  /-- 9E: SBC A,(HL) (R280). -/
  | sbcAAtHL
  /-- 9F: SBC A,A (R279). -/
  | sbcAA
  /-- A0: AND B (R282). -/
  | andB
  /-- A1: AND C (R282). -/
  | andC
  /-- A2: AND D (R282). -/
  | andD
  /-- A3: AND E (R282). -/
  | andE
  /-- A4: AND H (R282). -/
  | andH
  /-- A5: AND L (R282). -/
  | andL
  /-- A6: AND (HL) (R283). -/
  | andAtHL
  /-- A7: AND A (R282). -/
  | andA
  /-- A8: XOR B (R285). -/
  | xorB
  /-- A9: XOR C (R285). -/
  | xorC
  /-- AA: XOR D (R285). -/
  | xorD
  /-- AB: XOR E (R285). -/
  | xorE
  /-- AC: XOR H (R285). -/
  | xorH
  /-- AD: XOR L (R285). -/
  | xorL
  /-- AE: XOR (HL) (R286). -/
  | xorAtHL
  /-- AF: XOR A (R285). -/
  | xorA
  /-- B0: OR B (R288). -/
  | orB
  /-- B1: OR C (R288). -/
  | orC
  /-- B2: OR D (R288). -/
  | orD
  /-- B3: OR E (R288). -/
  | orE
  /-- B4: OR H (R288). -/
  | orH
  /-- B5: OR L (R288). -/
  | orL
  /-- B6: OR (HL) (R289). -/
  | orAtHL
  /-- B7: OR A (R288). -/
  | orA
  /-- B8: CP B (R291). -/
  | cpB
  /-- B9: CP C (R291). -/
  | cpC
  /-- BA: CP D (R291). -/
  | cpD
  /-- BB: CP E (R291). -/
  | cpE
  /-- BC: CP H (R291). -/
  | cpH
  /-- BD: CP L (R291). -/
  | cpL
  /-- BE: CP (HL) (R292). -/
  | cpAtHL
  /-- BF: CP A (R291). -/
  | cpA
  /-- C0: RET NZ (R379). -/
  | retNZ
  /-- C1: POP BC (R248). -/
  | popBC
  /-- C5: PUSH BC (R246). -/
  | pushBC
  /-- C7: RST 0x00 (R381). -/
  | rst00
  /-- C8: RET Z (R379). -/
  | retZ
  /-- C9: RET (R378). -/
  | ret
  /-- CF: RST 0x08 (R381). -/
  | rst08
  /-- D0: RET NC (R379). -/
  | retNC
  /-- D1: POP DE (R248). -/
  | popDE
  /-- D3: unused 0xD3 (R405). -/
  | unusedD3
  /-- D5: PUSH DE (R246). -/
  | pushDE
  /-- D7: RST 0x10 (R381). -/
  | rst10
  /-- D8: RET C (R379). -/
  | retC
  /-- D9: RETI (R380). -/
  | reti
  /-- DB: unused 0xDB (R405). -/
  | unusedDB
  /-- DD: unused 0xDD (R405). -/
  | unusedDD
  /-- DF: RST 0x18 (R381). -/
  | rst18
  /-- E1: POP HL (R248). -/
  | popHL
  /-- E2: LD (C),A (R214). -/
  | ldAtCA
  /-- E3: unused 0xE3 (R405). -/
  | unusedE3
  /-- E4: unused 0xE4 (R405). -/
  | unusedE4
  /-- E5: PUSH HL (R246). -/
  | pushHL
  /-- E7: RST 0x20 (R381). -/
  | rst20
  /-- E8: ADD SP,e (R313). -/
  | addSPDisp
  /-- E9: JP (HL) (R372). -/
  | jpAtHL
  /-- EB: unused 0xEB (R405). -/
  | unusedEB
  /-- EC: unused 0xEC (R405). -/
  | unusedEC
  /-- ED: unused 0xED (R405). -/
  | unusedED
  /-- EF: RST 0x28 (R381). -/
  | rst28
  /-- F1: POP AF (R249). -/
  | popAF
  /-- F2: LD A,(C) (R213). -/
  | ldAAtC
  /-- F3: DI (R401). -/
  | di
  /-- F4: unused 0xF4 (R405). -/
  | unusedF4
  /-- F5: PUSH AF (R247). -/
  | pushAF
  /-- F7: RST 0x30 (R381). -/
  | rst30
  /-- F9: LD SP,HL (R244). -/
  | ldSPHL
  /-- FB: EI (R402). -/
  | ei
  /-- FC: unused 0xFC (R405). -/
  | unusedFC
  /-- FD: unused 0xFD (R405). -/
  | unusedFD
  /-- FF: RST 0x38 (R381). -/
  | rst38
  /-- CB 00: RLC B (R334). -/
  | rlcB
  /-- CB 01: RLC C (R334). -/
  | rlcC
  /-- CB 02: RLC D (R334). -/
  | rlcD
  /-- CB 03: RLC E (R334). -/
  | rlcE
  /-- CB 04: RLC H (R334). -/
  | rlcH
  /-- CB 05: RLC L (R334). -/
  | rlcL
  /-- CB 06: RLC (HL) (R335). -/
  | rlcAtHL
  /-- CB 07: RLC A (R334). -/
  | rlcA
  /-- CB 08: RRC B (R336). -/
  | rrcB
  /-- CB 09: RRC C (R336). -/
  | rrcC
  /-- CB 0A: RRC D (R336). -/
  | rrcD
  /-- CB 0B: RRC E (R336). -/
  | rrcE
  /-- CB 0C: RRC H (R336). -/
  | rrcH
  /-- CB 0D: RRC L (R336). -/
  | rrcL
  /-- CB 0E: RRC (HL) (R337). -/
  | rrcAtHL
  /-- CB 0F: RRC A (R336). -/
  | rrcA
  /-- CB 10: RL B (R338). -/
  | rlB
  /-- CB 11: RL C (R338). -/
  | rlC
  /-- CB 12: RL D (R338). -/
  | rlD
  /-- CB 13: RL E (R338). -/
  | rlE
  /-- CB 14: RL H (R338). -/
  | rlH
  /-- CB 15: RL L (R338). -/
  | rlL
  /-- CB 16: RL (HL) (R339). -/
  | rlAtHL
  /-- CB 17: RL A (R338). -/
  | rlA
  /-- CB 18: RR B (R340). -/
  | rrB
  /-- CB 19: RR C (R340). -/
  | rrC
  /-- CB 1A: RR D (R340). -/
  | rrD
  /-- CB 1B: RR E (R340). -/
  | rrE
  /-- CB 1C: RR H (R340). -/
  | rrH
  /-- CB 1D: RR L (R340). -/
  | rrL
  /-- CB 1E: RR (HL) (R341). -/
  | rrAtHL
  /-- CB 1F: RR A (R340). -/
  | rrA
  /-- CB 20: SLA B (R342). -/
  | slaB
  /-- CB 21: SLA C (R342). -/
  | slaC
  /-- CB 22: SLA D (R342). -/
  | slaD
  /-- CB 23: SLA E (R342). -/
  | slaE
  /-- CB 24: SLA H (R342). -/
  | slaH
  /-- CB 25: SLA L (R342). -/
  | slaL
  /-- CB 26: SLA (HL) (R343). -/
  | slaAtHL
  /-- CB 27: SLA A (R342). -/
  | slaA
  /-- CB 28: SRA B (R344). -/
  | sraB
  /-- CB 29: SRA C (R344). -/
  | sraC
  /-- CB 2A: SRA D (R344). -/
  | sraD
  /-- CB 2B: SRA E (R344). -/
  | sraE
  /-- CB 2C: SRA H (R344). -/
  | sraH
  /-- CB 2D: SRA L (R344). -/
  | sraL
  /-- CB 2E: SRA (HL) (R345). -/
  | sraAtHL
  /-- CB 2F: SRA A (R344). -/
  | sraA
  /-- CB 30: SWAP B (R346). -/
  | swapB
  /-- CB 31: SWAP C (R346). -/
  | swapC
  /-- CB 32: SWAP D (R346). -/
  | swapD
  /-- CB 33: SWAP E (R346). -/
  | swapE
  /-- CB 34: SWAP H (R346). -/
  | swapH
  /-- CB 35: SWAP L (R346). -/
  | swapL
  /-- CB 36: SWAP (HL) (R347). -/
  | swapAtHL
  /-- CB 37: SWAP A (R346). -/
  | swapA
  /-- CB 38: SRL B (R348). -/
  | srlB
  /-- CB 39: SRL C (R348). -/
  | srlC
  /-- CB 3A: SRL D (R348). -/
  | srlD
  /-- CB 3B: SRL E (R348). -/
  | srlE
  /-- CB 3C: SRL H (R348). -/
  | srlH
  /-- CB 3D: SRL L (R348). -/
  | srlL
  /-- CB 3E: SRL (HL) (R349). -/
  | srlAtHL
  /-- CB 3F: SRL A (R348). -/
  | srlA
  /-- CB 40: BIT 0,B (R350). -/
  | bit0B
  /-- CB 41: BIT 0,C (R350). -/
  | bit0C
  /-- CB 42: BIT 0,D (R350). -/
  | bit0D
  /-- CB 43: BIT 0,E (R350). -/
  | bit0E
  /-- CB 44: BIT 0,H (R350). -/
  | bit0H
  /-- CB 45: BIT 0,L (R350). -/
  | bit0L
  /-- CB 46: BIT 0,(HL) (R351). -/
  | bit0AtHL
  /-- CB 47: BIT 0,A (R350). -/
  | bit0A
  /-- CB 48: BIT 1,B (R350). -/
  | bit1B
  /-- CB 49: BIT 1,C (R350). -/
  | bit1C
  /-- CB 4A: BIT 1,D (R350). -/
  | bit1D
  /-- CB 4B: BIT 1,E (R350). -/
  | bit1E
  /-- CB 4C: BIT 1,H (R350). -/
  | bit1H
  /-- CB 4D: BIT 1,L (R350). -/
  | bit1L
  /-- CB 4E: BIT 1,(HL) (R351). -/
  | bit1AtHL
  /-- CB 4F: BIT 1,A (R350). -/
  | bit1A
  /-- CB 50: BIT 2,B (R350). -/
  | bit2B
  /-- CB 51: BIT 2,C (R350). -/
  | bit2C
  /-- CB 52: BIT 2,D (R350). -/
  | bit2D
  /-- CB 53: BIT 2,E (R350). -/
  | bit2E
  /-- CB 54: BIT 2,H (R350). -/
  | bit2H
  /-- CB 55: BIT 2,L (R350). -/
  | bit2L
  /-- CB 56: BIT 2,(HL) (R351). -/
  | bit2AtHL
  /-- CB 57: BIT 2,A (R350). -/
  | bit2A
  /-- CB 58: BIT 3,B (R350). -/
  | bit3B
  /-- CB 59: BIT 3,C (R350). -/
  | bit3C
  /-- CB 5A: BIT 3,D (R350). -/
  | bit3D
  /-- CB 5B: BIT 3,E (R350). -/
  | bit3E
  /-- CB 5C: BIT 3,H (R350). -/
  | bit3H
  /-- CB 5D: BIT 3,L (R350). -/
  | bit3L
  /-- CB 5E: BIT 3,(HL) (R351). -/
  | bit3AtHL
  /-- CB 5F: BIT 3,A (R350). -/
  | bit3A
  /-- CB 60: BIT 4,B (R350). -/
  | bit4B
  /-- CB 61: BIT 4,C (R350). -/
  | bit4C
  /-- CB 62: BIT 4,D (R350). -/
  | bit4D
  /-- CB 63: BIT 4,E (R350). -/
  | bit4E
  /-- CB 64: BIT 4,H (R350). -/
  | bit4H
  /-- CB 65: BIT 4,L (R350). -/
  | bit4L
  /-- CB 66: BIT 4,(HL) (R351). -/
  | bit4AtHL
  /-- CB 67: BIT 4,A (R350). -/
  | bit4A
  /-- CB 68: BIT 5,B (R350). -/
  | bit5B
  /-- CB 69: BIT 5,C (R350). -/
  | bit5C
  /-- CB 6A: BIT 5,D (R350). -/
  | bit5D
  /-- CB 6B: BIT 5,E (R350). -/
  | bit5E
  /-- CB 6C: BIT 5,H (R350). -/
  | bit5H
  /-- CB 6D: BIT 5,L (R350). -/
  | bit5L
  /-- CB 6E: BIT 5,(HL) (R351). -/
  | bit5AtHL
  /-- CB 6F: BIT 5,A (R350). -/
  | bit5A
  /-- CB 70: BIT 6,B (R350). -/
  | bit6B
  /-- CB 71: BIT 6,C (R350). -/
  | bit6C
  /-- CB 72: BIT 6,D (R350). -/
  | bit6D
  /-- CB 73: BIT 6,E (R350). -/
  | bit6E
  /-- CB 74: BIT 6,H (R350). -/
  | bit6H
  /-- CB 75: BIT 6,L (R350). -/
  | bit6L
  /-- CB 76: BIT 6,(HL) (R351). -/
  | bit6AtHL
  /-- CB 77: BIT 6,A (R350). -/
  | bit6A
  /-- CB 78: BIT 7,B (R350). -/
  | bit7B
  /-- CB 79: BIT 7,C (R350). -/
  | bit7C
  /-- CB 7A: BIT 7,D (R350). -/
  | bit7D
  /-- CB 7B: BIT 7,E (R350). -/
  | bit7E
  /-- CB 7C: BIT 7,H (R350). -/
  | bit7H
  /-- CB 7D: BIT 7,L (R350). -/
  | bit7L
  /-- CB 7E: BIT 7,(HL) (R351). -/
  | bit7AtHL
  /-- CB 7F: BIT 7,A (R350). -/
  | bit7A
  /-- CB 80: RES 0,B (R352). -/
  | res0B
  /-- CB 81: RES 0,C (R352). -/
  | res0C
  /-- CB 82: RES 0,D (R352). -/
  | res0D
  /-- CB 83: RES 0,E (R352). -/
  | res0E
  /-- CB 84: RES 0,H (R352). -/
  | res0H
  /-- CB 85: RES 0,L (R352). -/
  | res0L
  /-- CB 86: RES 0,(HL) (R353). -/
  | res0AtHL
  /-- CB 87: RES 0,A (R352). -/
  | res0A
  /-- CB 88: RES 1,B (R352). -/
  | res1B
  /-- CB 89: RES 1,C (R352). -/
  | res1C
  /-- CB 8A: RES 1,D (R352). -/
  | res1D
  /-- CB 8B: RES 1,E (R352). -/
  | res1E
  /-- CB 8C: RES 1,H (R352). -/
  | res1H
  /-- CB 8D: RES 1,L (R352). -/
  | res1L
  /-- CB 8E: RES 1,(HL) (R353). -/
  | res1AtHL
  /-- CB 8F: RES 1,A (R352). -/
  | res1A
  /-- CB 90: RES 2,B (R352). -/
  | res2B
  /-- CB 91: RES 2,C (R352). -/
  | res2C
  /-- CB 92: RES 2,D (R352). -/
  | res2D
  /-- CB 93: RES 2,E (R352). -/
  | res2E
  /-- CB 94: RES 2,H (R352). -/
  | res2H
  /-- CB 95: RES 2,L (R352). -/
  | res2L
  /-- CB 96: RES 2,(HL) (R353). -/
  | res2AtHL
  /-- CB 97: RES 2,A (R352). -/
  | res2A
  /-- CB 98: RES 3,B (R352). -/
  | res3B
  /-- CB 99: RES 3,C (R352). -/
  | res3C
  /-- CB 9A: RES 3,D (R352). -/
  | res3D
  /-- CB 9B: RES 3,E (R352). -/
  | res3E
  /-- CB 9C: RES 3,H (R352). -/
  | res3H
  /-- CB 9D: RES 3,L (R352). -/
  | res3L
  /-- CB 9E: RES 3,(HL) (R353). -/
  | res3AtHL
  /-- CB 9F: RES 3,A (R352). -/
  | res3A
  /-- CB A0: RES 4,B (R352). -/
  | res4B
  /-- CB A1: RES 4,C (R352). -/
  | res4C
  /-- CB A2: RES 4,D (R352). -/
  | res4D
  /-- CB A3: RES 4,E (R352). -/
  | res4E
  /-- CB A4: RES 4,H (R352). -/
  | res4H
  /-- CB A5: RES 4,L (R352). -/
  | res4L
  /-- CB A6: RES 4,(HL) (R353). -/
  | res4AtHL
  /-- CB A7: RES 4,A (R352). -/
  | res4A
  /-- CB A8: RES 5,B (R352). -/
  | res5B
  /-- CB A9: RES 5,C (R352). -/
  | res5C
  /-- CB AA: RES 5,D (R352). -/
  | res5D
  /-- CB AB: RES 5,E (R352). -/
  | res5E
  /-- CB AC: RES 5,H (R352). -/
  | res5H
  /-- CB AD: RES 5,L (R352). -/
  | res5L
  /-- CB AE: RES 5,(HL) (R353). -/
  | res5AtHL
  /-- CB AF: RES 5,A (R352). -/
  | res5A
  /-- CB B0: RES 6,B (R352). -/
  | res6B
  /-- CB B1: RES 6,C (R352). -/
  | res6C
  /-- CB B2: RES 6,D (R352). -/
  | res6D
  /-- CB B3: RES 6,E (R352). -/
  | res6E
  /-- CB B4: RES 6,H (R352). -/
  | res6H
  /-- CB B5: RES 6,L (R352). -/
  | res6L
  /-- CB B6: RES 6,(HL) (R353). -/
  | res6AtHL
  /-- CB B7: RES 6,A (R352). -/
  | res6A
  /-- CB B8: RES 7,B (R352). -/
  | res7B
  /-- CB B9: RES 7,C (R352). -/
  | res7C
  /-- CB BA: RES 7,D (R352). -/
  | res7D
  /-- CB BB: RES 7,E (R352). -/
  | res7E
  /-- CB BC: RES 7,H (R352). -/
  | res7H
  /-- CB BD: RES 7,L (R352). -/
  | res7L
  /-- CB BE: RES 7,(HL) (R353). -/
  | res7AtHL
  /-- CB BF: RES 7,A (R352). -/
  | res7A
  /-- CB C0: SET 0,B (R354). -/
  | set0B
  /-- CB C1: SET 0,C (R354). -/
  | set0C
  /-- CB C2: SET 0,D (R354). -/
  | set0D
  /-- CB C3: SET 0,E (R354). -/
  | set0E
  /-- CB C4: SET 0,H (R354). -/
  | set0H
  /-- CB C5: SET 0,L (R354). -/
  | set0L
  /-- CB C6: SET 0,(HL) (R355). -/
  | set0AtHL
  /-- CB C7: SET 0,A (R354). -/
  | set0A
  /-- CB C8: SET 1,B (R354). -/
  | set1B
  /-- CB C9: SET 1,C (R354). -/
  | set1C
  /-- CB CA: SET 1,D (R354). -/
  | set1D
  /-- CB CB: SET 1,E (R354). -/
  | set1E
  /-- CB CC: SET 1,H (R354). -/
  | set1H
  /-- CB CD: SET 1,L (R354). -/
  | set1L
  /-- CB CE: SET 1,(HL) (R355). -/
  | set1AtHL
  /-- CB CF: SET 1,A (R354). -/
  | set1A
  /-- CB D0: SET 2,B (R354). -/
  | set2B
  /-- CB D1: SET 2,C (R354). -/
  | set2C
  /-- CB D2: SET 2,D (R354). -/
  | set2D
  /-- CB D3: SET 2,E (R354). -/
  | set2E
  /-- CB D4: SET 2,H (R354). -/
  | set2H
  /-- CB D5: SET 2,L (R354). -/
  | set2L
  /-- CB D6: SET 2,(HL) (R355). -/
  | set2AtHL
  /-- CB D7: SET 2,A (R354). -/
  | set2A
  /-- CB D8: SET 3,B (R354). -/
  | set3B
  /-- CB D9: SET 3,C (R354). -/
  | set3C
  /-- CB DA: SET 3,D (R354). -/
  | set3D
  /-- CB DB: SET 3,E (R354). -/
  | set3E
  /-- CB DC: SET 3,H (R354). -/
  | set3H
  /-- CB DD: SET 3,L (R354). -/
  | set3L
  /-- CB DE: SET 3,(HL) (R355). -/
  | set3AtHL
  /-- CB DF: SET 3,A (R354). -/
  | set3A
  /-- CB E0: SET 4,B (R354). -/
  | set4B
  /-- CB E1: SET 4,C (R354). -/
  | set4C
  /-- CB E2: SET 4,D (R354). -/
  | set4D
  /-- CB E3: SET 4,E (R354). -/
  | set4E
  /-- CB E4: SET 4,H (R354). -/
  | set4H
  /-- CB E5: SET 4,L (R354). -/
  | set4L
  /-- CB E6: SET 4,(HL) (R355). -/
  | set4AtHL
  /-- CB E7: SET 4,A (R354). -/
  | set4A
  /-- CB E8: SET 5,B (R354). -/
  | set5B
  /-- CB E9: SET 5,C (R354). -/
  | set5C
  /-- CB EA: SET 5,D (R354). -/
  | set5D
  /-- CB EB: SET 5,E (R354). -/
  | set5E
  /-- CB EC: SET 5,H (R354). -/
  | set5H
  /-- CB ED: SET 5,L (R354). -/
  | set5L
  /-- CB EE: SET 5,(HL) (R355). -/
  | set5AtHL
  /-- CB EF: SET 5,A (R354). -/
  | set5A
  /-- CB F0: SET 6,B (R354). -/
  | set6B
  /-- CB F1: SET 6,C (R354). -/
  | set6C
  /-- CB F2: SET 6,D (R354). -/
  | set6D
  /-- CB F3: SET 6,E (R354). -/
  | set6E
  /-- CB F4: SET 6,H (R354). -/
  | set6H
  /-- CB F5: SET 6,L (R354). -/
  | set6L
  /-- CB F6: SET 6,(HL) (R355). -/
  | set6AtHL
  /-- CB F7: SET 6,A (R354). -/
  | set6A
  /-- CB F8: SET 7,B (R354). -/
  | set7B
  /-- CB F9: SET 7,C (R354). -/
  | set7C
  /-- CB FA: SET 7,D (R354). -/
  | set7D
  /-- CB FB: SET 7,E (R354). -/
  | set7E
  /-- CB FC: SET 7,H (R354). -/
  | set7H
  /-- CB FD: SET 7,L (R354). -/
  | set7L
  /-- CB FE: SET 7,(HL) (R355). -/
  | set7AtHL
  /-- CB FF: SET 7,A (R354). -/
  | set7A
  deriving DecidableEq, Repr

end Sys2Proof
end

