-- ==== Sys2Proof/WellFormed.lean ====
section
/-! DEFINITION. Which terms of `Instr` are instructions. Every operand is a bit vector of its encoded width, so the one
check is the decode class of R126: the escape byte 0xCB is no instruction of its own, it opens the escape table (R406). -/

namespace Sys2Proof

/-- The escape byte's own row is the one term decode never answers: 0xCB followed by `op2` is the escape table's
instruction for `op2` (R125, R126, R406) (DESIGN CHOICE, safe: log entry 9). -/
def Instr.wellFormed : Instr → Bool
  | .prefixCB _ => false
  | _ => true

end Sys2Proof
end

