-- ==== Sys2Proof/Decode.lean ====
section
/-! DEFINITION. Decode and encode (30_encoding.md). The decoder follows the prose rules R120 to R123 and R125: it splits an
opcode byte into x, y, z and names the row through the operand codes of R114 to R118. The encoder is the opcode column of
opcode_table.json, row by row. The table's other columns (length, cycles, flags) stand at the end as `Instr.row`. -/

namespace Sys2Proof

/-! ### Bit-field helpers (R9) -/

/-- `hi ++ lo`: the 16-bit value of two bytes. -/
def join (hi lo : Byte) : Word := hi ++ lo

/-- `v[15:8]`. -/
def hi8 (v : Word) : Byte := v.extractLsb' 8 8

/-- `v[7:0]`. -/
def lo8 (v : Word) : Byte := v.extractLsb' 0 8

/-- `zext_16(v)`. -/
def zext16 (v : Byte) : Word := v.setWidth 16

/-- `sext_16(v)`. -/
def sext16 (v : Byte) : Word := v.signExtend 16

/-! ### Operand codes -/

/-- The `r` field (R114). -/
def r8OfCode : Nat → R8
  | 0 => .reg .b
  | 1 => .reg .c
  | 2 => .reg .d
  | 3 => .reg .e
  | 4 => .reg .h
  | 5 => .reg .l
  | 6 => .atHL
  | _ => .reg .a

/-- The `dd` field (R115). -/
def pairOfCode : Nat → Pair
  | 0 => .bc
  | 1 => .de
  | 2 => .hl
  | _ => .sp

/-- The `qq` field (R116). -/
def stackPairOfCode : Nat → StackPair
  | 0 => .bc
  | 1 => .de
  | 2 => .hl
  | _ => .af

/-- The `cc` field (R117). -/
def condOfCode : Nat → Cond
  | 0 => .nz
  | 1 => .z
  | 2 => .nc
  | _ => .c

/-- The operation field of the ALU block (R121). -/
def aluOfCode : Nat → AluOp
  | 0 => .add
  | 1 => .adc
  | 2 => .sub
  | 3 => .sbc
  | 4 => .and
  | 5 => .xor
  | 6 => .or
  | _ => .cp

/-- The operation field of the escape table's first quarter (R125). -/
def rotOfCode : Nat → RotOp
  | 0 => .rlc
  | 1 => .rrc
  | 2 => .rl
  | 3 => .rr
  | 4 => .sla
  | 5 => .sra
  | 6 => .swap
  | _ => .srl

/-- A 3-bit index field (R118). -/
def idxOfCode : Nat → Idx3
  | 0 => .i0
  | 1 => .i1
  | 2 => .i2
  | 3 => .i3
  | 4 => .i4
  | 5 => .i5
  | 6 => .i6
  | _ => .i7

/-- The number a 3-bit index field holds (R118). -/
def Idx3.toNat : Idx3 → Nat
  | .i0 => 0
  | .i1 => 1
  | .i2 => 2
  | .i3 => 3
  | .i4 => 4
  | .i5 => 5
  | .i6 => 6
  | .i7 => 7

/-! ### The codes themselves (R114 to R118, R121, R125) -/

/-- The code of an `r` field (R114). -/
def R8.code : R8 → Nat
  | .reg .b => 0
  | .reg .c => 1
  | .reg .d => 2
  | .reg .e => 3
  | .reg .h => 4
  | .reg .l => 5
  | .atHL => 6
  | .reg .a => 7

/-- The code of a `dd` field (R115). -/
def Pair.code : Pair → Nat
  | .bc => 0
  | .de => 1
  | .hl => 2
  | .sp => 3

/-- The code of a `qq` field (R116). -/
def StackPair.code : StackPair → Nat
  | .bc => 0
  | .de => 1
  | .hl => 2
  | .af => 3

/-- The code of a `cc` field (R117). -/
def Cond.code : Cond → Nat
  | .nz => 0
  | .z => 1
  | .nc => 2
  | .c => 3

/-- The code of an ALU operation (R121). -/
def AluOp.code : AluOp → Nat
  | .add => 0
  | .adc => 1
  | .sub => 2
  | .sbc => 3
  | .and => 4
  | .xor => 5
  | .or => 6
  | .cp => 7

/-- The code of a rotate, shift or swap (R125). -/
def RotOp.code : RotOp → Nat
  | .rlc => 0
  | .rrc => 1
  | .rl => 2
  | .rr => 3
  | .sla => 4
  | .sra => 5
  | .swap => 6
  | .srl => 7

/-! ### The rows of each family, by their operand fields -/

/-- Block x = 1 (R120): LD r,r' with the destination first; the slot LD (HL),(HL) is HALT. -/
def ldInstr : R8 → R8 → Instr
  | .reg .b, .reg .b => .ldBB
  | .reg .b, .reg .c => .ldBC
  | .reg .b, .reg .d => .ldBD
  | .reg .b, .reg .e => .ldBE
  | .reg .b, .reg .h => .ldBH
  | .reg .b, .reg .l => .ldBL
  | .reg .b, .atHL => .ldBAtHL
  | .reg .b, .reg .a => .ldBA
  | .reg .c, .reg .b => .ldCB
  | .reg .c, .reg .c => .ldCC
  | .reg .c, .reg .d => .ldCD
  | .reg .c, .reg .e => .ldCE
  | .reg .c, .reg .h => .ldCH
  | .reg .c, .reg .l => .ldCL
  | .reg .c, .atHL => .ldCAtHL
  | .reg .c, .reg .a => .ldCA
  | .reg .d, .reg .b => .ldDB
  | .reg .d, .reg .c => .ldDC
  | .reg .d, .reg .d => .ldDD
  | .reg .d, .reg .e => .ldDE
  | .reg .d, .reg .h => .ldDH
  | .reg .d, .reg .l => .ldDL
  | .reg .d, .atHL => .ldDAtHL
  | .reg .d, .reg .a => .ldDA
  | .reg .e, .reg .b => .ldEB
  | .reg .e, .reg .c => .ldEC
  | .reg .e, .reg .d => .ldED
  | .reg .e, .reg .e => .ldEE
  | .reg .e, .reg .h => .ldEH
  | .reg .e, .reg .l => .ldEL
  | .reg .e, .atHL => .ldEAtHL
  | .reg .e, .reg .a => .ldEA
  | .reg .h, .reg .b => .ldHB
  | .reg .h, .reg .c => .ldHC
  | .reg .h, .reg .d => .ldHD
  | .reg .h, .reg .e => .ldHE
  | .reg .h, .reg .h => .ldHH
  | .reg .h, .reg .l => .ldHL
  | .reg .h, .atHL => .ldHAtHL
  | .reg .h, .reg .a => .ldHA
  | .reg .l, .reg .b => .ldLB
  | .reg .l, .reg .c => .ldLC
  | .reg .l, .reg .d => .ldLD
  | .reg .l, .reg .e => .ldLE
  | .reg .l, .reg .h => .ldLH
  | .reg .l, .reg .l => .ldLL
  | .reg .l, .atHL => .ldLAtHL
  | .reg .l, .reg .a => .ldLA
  | .atHL, .reg .b => .ldAtHLB
  | .atHL, .reg .c => .ldAtHLC
  | .atHL, .reg .d => .ldAtHLD
  | .atHL, .reg .e => .ldAtHLE
  | .atHL, .reg .h => .ldAtHLH
  | .atHL, .reg .l => .ldAtHLL
  | .atHL, .atHL => .halt
  | .atHL, .reg .a => .ldAtHLA
  | .reg .a, .reg .b => .ldAB
  | .reg .a, .reg .c => .ldAC
  | .reg .a, .reg .d => .ldAD
  | .reg .a, .reg .e => .ldAE
  | .reg .a, .reg .h => .ldAH
  | .reg .a, .reg .l => .ldAL
  | .reg .a, .atHL => .ldAAtHL
  | .reg .a, .reg .a => .ldAA

/-- LD r,n (R122, z = 6). -/
def ldImmInstr : R8 → Byte → Instr
  | .reg .b, n => .ldBImm n
  | .reg .c, n => .ldCImm n
  | .reg .d, n => .ldDImm n
  | .reg .e, n => .ldEImm n
  | .reg .h, n => .ldHImm n
  | .reg .l, n => .ldLImm n
  | .atHL, n => .ldAtHLImm n
  | .reg .a, n => .ldAImm n

/-- INC r (R122, z = 4). -/
def incInstr : R8 → Instr
  | .reg .b => .incB
  | .reg .c => .incC
  | .reg .d => .incD
  | .reg .e => .incE
  | .reg .h => .incH
  | .reg .l => .incL
  | .atHL => .incAtHL
  | .reg .a => .incA

/-- DEC r (R122, z = 5). -/
def decInstr : R8 → Instr
  | .reg .b => .decB
  | .reg .c => .decC
  | .reg .d => .decD
  | .reg .e => .decE
  | .reg .h => .decH
  | .reg .l => .decL
  | .atHL => .decAtHL
  | .reg .a => .decA

/-- Block x = 2 (R121): ALU A,r. -/
def aluInstr : AluOp → R8 → Instr
  | .add, .reg .b => .addAB
  | .add, .reg .c => .addAC
  | .add, .reg .d => .addAD
  | .add, .reg .e => .addAE
  | .add, .reg .h => .addAH
  | .add, .reg .l => .addAL
  | .add, .atHL => .addAAtHL
  | .add, .reg .a => .addAA
  | .adc, .reg .b => .adcAB
  | .adc, .reg .c => .adcAC
  | .adc, .reg .d => .adcAD
  | .adc, .reg .e => .adcAE
  | .adc, .reg .h => .adcAH
  | .adc, .reg .l => .adcAL
  | .adc, .atHL => .adcAAtHL
  | .adc, .reg .a => .adcAA
  | .sub, .reg .b => .subB
  | .sub, .reg .c => .subC
  | .sub, .reg .d => .subD
  | .sub, .reg .e => .subE
  | .sub, .reg .h => .subH
  | .sub, .reg .l => .subL
  | .sub, .atHL => .subAtHL
  | .sub, .reg .a => .subA
  | .sbc, .reg .b => .sbcAB
  | .sbc, .reg .c => .sbcAC
  | .sbc, .reg .d => .sbcAD
  | .sbc, .reg .e => .sbcAE
  | .sbc, .reg .h => .sbcAH
  | .sbc, .reg .l => .sbcAL
  | .sbc, .atHL => .sbcAAtHL
  | .sbc, .reg .a => .sbcAA
  | .and, .reg .b => .andB
  | .and, .reg .c => .andC
  | .and, .reg .d => .andD
  | .and, .reg .e => .andE
  | .and, .reg .h => .andH
  | .and, .reg .l => .andL
  | .and, .atHL => .andAtHL
  | .and, .reg .a => .andA
  | .xor, .reg .b => .xorB
  | .xor, .reg .c => .xorC
  | .xor, .reg .d => .xorD
  | .xor, .reg .e => .xorE
  | .xor, .reg .h => .xorH
  | .xor, .reg .l => .xorL
  | .xor, .atHL => .xorAtHL
  | .xor, .reg .a => .xorA
  | .or, .reg .b => .orB
  | .or, .reg .c => .orC
  | .or, .reg .d => .orD
  | .or, .reg .e => .orE
  | .or, .reg .h => .orH
  | .or, .reg .l => .orL
  | .or, .atHL => .orAtHL
  | .or, .reg .a => .orA
  | .cp, .reg .b => .cpB
  | .cp, .reg .c => .cpC
  | .cp, .reg .d => .cpD
  | .cp, .reg .e => .cpE
  | .cp, .reg .h => .cpH
  | .cp, .reg .l => .cpL
  | .cp, .atHL => .cpAtHL
  | .cp, .reg .a => .cpA

/-- ALU A,n (R121). -/
def aluImmInstr : AluOp → Byte → Instr
  | .add, n => .addAImm n
  | .adc, n => .adcAImm n
  | .sub, n => .subImm n
  | .sbc, n => .sbcAImm n
  | .and, n => .andImm n
  | .xor, n => .xorImm n
  | .or, n => .orImm n
  | .cp, n => .cpImm n

/-- LD dd,nn (R122, z = 1). -/
def ldPairInstr : Pair → Word → Instr
  | .bc, nn => .ldBCImm16 nn
  | .de, nn => .ldDEImm16 nn
  | .hl, nn => .ldHLImm16 nn
  | .sp, nn => .ldSPImm16 nn

/-- ADD HL,dd (R122, z = 1). -/
def addHlInstr : Pair → Instr
  | .bc => .addHLBC
  | .de => .addHLDE
  | .hl => .addHLHL
  | .sp => .addHLSP

/-- INC dd (R122, z = 3). -/
def incPairInstr : Pair → Instr
  | .bc => .incBC
  | .de => .incDE
  | .hl => .incHL
  | .sp => .incSP

/-- DEC dd (R122, z = 3). -/
def decPairInstr : Pair → Instr
  | .bc => .decBC
  | .de => .decDE
  | .hl => .decHL
  | .sp => .decSP

/-- POP qq (R123, z = 1). -/
def popInstr : StackPair → Instr
  | .bc => .popBC
  | .de => .popDE
  | .hl => .popHL
  | .af => .popAF

/-- PUSH qq (R123, z = 5). -/
def pushInstr : StackPair → Instr
  | .bc => .pushBC
  | .de => .pushDE
  | .hl => .pushHL
  | .af => .pushAF

/-- JR cc,e (R122, z = 0). -/
def jrCcInstr : Cond → Byte → Instr
  | .nz, e => .jrNZDisp e
  | .z, e => .jrZDisp e
  | .nc, e => .jrNCDisp e
  | .c, e => .jrCDisp e

/-- RET cc (R123, z = 0). -/
def retCcInstr : Cond → Instr
  | .nz => .retNZ
  | .z => .retZ
  | .nc => .retNC
  | .c => .retC

/-- JP cc,nn (R123, z = 2). -/
def jpCcInstr : Cond → Word → Instr
  | .nz, nn => .jpNZImm16 nn
  | .z, nn => .jpZImm16 nn
  | .nc, nn => .jpNCImm16 nn
  | .c, nn => .jpCImm16 nn

/-- CALL cc,nn (R123, z = 4). -/
def callCcInstr : Cond → Word → Instr
  | .nz, nn => .callNZImm16 nn
  | .z, nn => .callZImm16 nn
  | .nc, nn => .callNCImm16 nn
  | .c, nn => .callCImm16 nn

/-- RST t (R123, z = 7). -/
def rstInstr : Idx3 → Instr
  | .i0 => .rst00
  | .i1 => .rst08
  | .i2 => .rst10
  | .i3 => .rst18
  | .i4 => .rst20
  | .i5 => .rst28
  | .i6 => .rst30
  | .i7 => .rst38

/-- Escape block x = 0 (R125): rotate, shift or swap r. -/
def rotInstr : RotOp → R8 → Instr
  | .rlc, .reg .b => .rlcB
  | .rlc, .reg .c => .rlcC
  | .rlc, .reg .d => .rlcD
  | .rlc, .reg .e => .rlcE
  | .rlc, .reg .h => .rlcH
  | .rlc, .reg .l => .rlcL
  | .rlc, .atHL => .rlcAtHL
  | .rlc, .reg .a => .rlcA
  | .rrc, .reg .b => .rrcB
  | .rrc, .reg .c => .rrcC
  | .rrc, .reg .d => .rrcD
  | .rrc, .reg .e => .rrcE
  | .rrc, .reg .h => .rrcH
  | .rrc, .reg .l => .rrcL
  | .rrc, .atHL => .rrcAtHL
  | .rrc, .reg .a => .rrcA
  | .rl, .reg .b => .rlB
  | .rl, .reg .c => .rlC
  | .rl, .reg .d => .rlD
  | .rl, .reg .e => .rlE
  | .rl, .reg .h => .rlH
  | .rl, .reg .l => .rlL
  | .rl, .atHL => .rlAtHL
  | .rl, .reg .a => .rlA
  | .rr, .reg .b => .rrB
  | .rr, .reg .c => .rrC
  | .rr, .reg .d => .rrD
  | .rr, .reg .e => .rrE
  | .rr, .reg .h => .rrH
  | .rr, .reg .l => .rrL
  | .rr, .atHL => .rrAtHL
  | .rr, .reg .a => .rrA
  | .sla, .reg .b => .slaB
  | .sla, .reg .c => .slaC
  | .sla, .reg .d => .slaD
  | .sla, .reg .e => .slaE
  | .sla, .reg .h => .slaH
  | .sla, .reg .l => .slaL
  | .sla, .atHL => .slaAtHL
  | .sla, .reg .a => .slaA
  | .sra, .reg .b => .sraB
  | .sra, .reg .c => .sraC
  | .sra, .reg .d => .sraD
  | .sra, .reg .e => .sraE
  | .sra, .reg .h => .sraH
  | .sra, .reg .l => .sraL
  | .sra, .atHL => .sraAtHL
  | .sra, .reg .a => .sraA
  | .swap, .reg .b => .swapB
  | .swap, .reg .c => .swapC
  | .swap, .reg .d => .swapD
  | .swap, .reg .e => .swapE
  | .swap, .reg .h => .swapH
  | .swap, .reg .l => .swapL
  | .swap, .atHL => .swapAtHL
  | .swap, .reg .a => .swapA
  | .srl, .reg .b => .srlB
  | .srl, .reg .c => .srlC
  | .srl, .reg .d => .srlD
  | .srl, .reg .e => .srlE
  | .srl, .reg .h => .srlH
  | .srl, .reg .l => .srlL
  | .srl, .atHL => .srlAtHL
  | .srl, .reg .a => .srlA

/-- Escape block x = 1 (R125): BIT b,r. -/
def bitInstr : Idx3 → R8 → Instr
  | .i0, .reg .b => .bit0B
  | .i0, .reg .c => .bit0C
  | .i0, .reg .d => .bit0D
  | .i0, .reg .e => .bit0E
  | .i0, .reg .h => .bit0H
  | .i0, .reg .l => .bit0L
  | .i0, .atHL => .bit0AtHL
  | .i0, .reg .a => .bit0A
  | .i1, .reg .b => .bit1B
  | .i1, .reg .c => .bit1C
  | .i1, .reg .d => .bit1D
  | .i1, .reg .e => .bit1E
  | .i1, .reg .h => .bit1H
  | .i1, .reg .l => .bit1L
  | .i1, .atHL => .bit1AtHL
  | .i1, .reg .a => .bit1A
  | .i2, .reg .b => .bit2B
  | .i2, .reg .c => .bit2C
  | .i2, .reg .d => .bit2D
  | .i2, .reg .e => .bit2E
  | .i2, .reg .h => .bit2H
  | .i2, .reg .l => .bit2L
  | .i2, .atHL => .bit2AtHL
  | .i2, .reg .a => .bit2A
  | .i3, .reg .b => .bit3B
  | .i3, .reg .c => .bit3C
  | .i3, .reg .d => .bit3D
  | .i3, .reg .e => .bit3E
  | .i3, .reg .h => .bit3H
  | .i3, .reg .l => .bit3L
  | .i3, .atHL => .bit3AtHL
  | .i3, .reg .a => .bit3A
  | .i4, .reg .b => .bit4B
  | .i4, .reg .c => .bit4C
  | .i4, .reg .d => .bit4D
  | .i4, .reg .e => .bit4E
  | .i4, .reg .h => .bit4H
  | .i4, .reg .l => .bit4L
  | .i4, .atHL => .bit4AtHL
  | .i4, .reg .a => .bit4A
  | .i5, .reg .b => .bit5B
  | .i5, .reg .c => .bit5C
  | .i5, .reg .d => .bit5D
  | .i5, .reg .e => .bit5E
  | .i5, .reg .h => .bit5H
  | .i5, .reg .l => .bit5L
  | .i5, .atHL => .bit5AtHL
  | .i5, .reg .a => .bit5A
  | .i6, .reg .b => .bit6B
  | .i6, .reg .c => .bit6C
  | .i6, .reg .d => .bit6D
  | .i6, .reg .e => .bit6E
  | .i6, .reg .h => .bit6H
  | .i6, .reg .l => .bit6L
  | .i6, .atHL => .bit6AtHL
  | .i6, .reg .a => .bit6A
  | .i7, .reg .b => .bit7B
  | .i7, .reg .c => .bit7C
  | .i7, .reg .d => .bit7D
  | .i7, .reg .e => .bit7E
  | .i7, .reg .h => .bit7H
  | .i7, .reg .l => .bit7L
  | .i7, .atHL => .bit7AtHL
  | .i7, .reg .a => .bit7A

/-- Escape block x = 2 (R125): RES b,r. -/
def resInstr : Idx3 → R8 → Instr
  | .i0, .reg .b => .res0B
  | .i0, .reg .c => .res0C
  | .i0, .reg .d => .res0D
  | .i0, .reg .e => .res0E
  | .i0, .reg .h => .res0H
  | .i0, .reg .l => .res0L
  | .i0, .atHL => .res0AtHL
  | .i0, .reg .a => .res0A
  | .i1, .reg .b => .res1B
  | .i1, .reg .c => .res1C
  | .i1, .reg .d => .res1D
  | .i1, .reg .e => .res1E
  | .i1, .reg .h => .res1H
  | .i1, .reg .l => .res1L
  | .i1, .atHL => .res1AtHL
  | .i1, .reg .a => .res1A
  | .i2, .reg .b => .res2B
  | .i2, .reg .c => .res2C
  | .i2, .reg .d => .res2D
  | .i2, .reg .e => .res2E
  | .i2, .reg .h => .res2H
  | .i2, .reg .l => .res2L
  | .i2, .atHL => .res2AtHL
  | .i2, .reg .a => .res2A
  | .i3, .reg .b => .res3B
  | .i3, .reg .c => .res3C
  | .i3, .reg .d => .res3D
  | .i3, .reg .e => .res3E
  | .i3, .reg .h => .res3H
  | .i3, .reg .l => .res3L
  | .i3, .atHL => .res3AtHL
  | .i3, .reg .a => .res3A
  | .i4, .reg .b => .res4B
  | .i4, .reg .c => .res4C
  | .i4, .reg .d => .res4D
  | .i4, .reg .e => .res4E
  | .i4, .reg .h => .res4H
  | .i4, .reg .l => .res4L
  | .i4, .atHL => .res4AtHL
  | .i4, .reg .a => .res4A
  | .i5, .reg .b => .res5B
  | .i5, .reg .c => .res5C
  | .i5, .reg .d => .res5D
  | .i5, .reg .e => .res5E
  | .i5, .reg .h => .res5H
  | .i5, .reg .l => .res5L
  | .i5, .atHL => .res5AtHL
  | .i5, .reg .a => .res5A
  | .i6, .reg .b => .res6B
  | .i6, .reg .c => .res6C
  | .i6, .reg .d => .res6D
  | .i6, .reg .e => .res6E
  | .i6, .reg .h => .res6H
  | .i6, .reg .l => .res6L
  | .i6, .atHL => .res6AtHL
  | .i6, .reg .a => .res6A
  | .i7, .reg .b => .res7B
  | .i7, .reg .c => .res7C
  | .i7, .reg .d => .res7D
  | .i7, .reg .e => .res7E
  | .i7, .reg .h => .res7H
  | .i7, .reg .l => .res7L
  | .i7, .atHL => .res7AtHL
  | .i7, .reg .a => .res7A

/-- Escape block x = 3 (R125): SET b,r. -/
def setInstr : Idx3 → R8 → Instr
  | .i0, .reg .b => .set0B
  | .i0, .reg .c => .set0C
  | .i0, .reg .d => .set0D
  | .i0, .reg .e => .set0E
  | .i0, .reg .h => .set0H
  | .i0, .reg .l => .set0L
  | .i0, .atHL => .set0AtHL
  | .i0, .reg .a => .set0A
  | .i1, .reg .b => .set1B
  | .i1, .reg .c => .set1C
  | .i1, .reg .d => .set1D
  | .i1, .reg .e => .set1E
  | .i1, .reg .h => .set1H
  | .i1, .reg .l => .set1L
  | .i1, .atHL => .set1AtHL
  | .i1, .reg .a => .set1A
  | .i2, .reg .b => .set2B
  | .i2, .reg .c => .set2C
  | .i2, .reg .d => .set2D
  | .i2, .reg .e => .set2E
  | .i2, .reg .h => .set2H
  | .i2, .reg .l => .set2L
  | .i2, .atHL => .set2AtHL
  | .i2, .reg .a => .set2A
  | .i3, .reg .b => .set3B
  | .i3, .reg .c => .set3C
  | .i3, .reg .d => .set3D
  | .i3, .reg .e => .set3E
  | .i3, .reg .h => .set3H
  | .i3, .reg .l => .set3L
  | .i3, .atHL => .set3AtHL
  | .i3, .reg .a => .set3A
  | .i4, .reg .b => .set4B
  | .i4, .reg .c => .set4C
  | .i4, .reg .d => .set4D
  | .i4, .reg .e => .set4E
  | .i4, .reg .h => .set4H
  | .i4, .reg .l => .set4L
  | .i4, .atHL => .set4AtHL
  | .i4, .reg .a => .set4A
  | .i5, .reg .b => .set5B
  | .i5, .reg .c => .set5C
  | .i5, .reg .d => .set5D
  | .i5, .reg .e => .set5E
  | .i5, .reg .h => .set5H
  | .i5, .reg .l => .set5L
  | .i5, .atHL => .set5AtHL
  | .i5, .reg .a => .set5A
  | .i6, .reg .b => .set6B
  | .i6, .reg .c => .set6C
  | .i6, .reg .d => .set6D
  | .i6, .reg .e => .set6E
  | .i6, .reg .h => .set6H
  | .i6, .reg .l => .set6L
  | .i6, .atHL => .set6AtHL
  | .i6, .reg .a => .set6A
  | .i7, .reg .b => .set7B
  | .i7, .reg .c => .set7C
  | .i7, .reg .d => .set7D
  | .i7, .reg .e => .set7E
  | .i7, .reg .h => .set7H
  | .i7, .reg .l => .set7L
  | .i7, .atHL => .set7AtHL
  | .i7, .reg .a => .set7A

/-! ### The two decode tables -/

/-- A row of the primary table, with what decode still has to read (R110, R112, R150). -/
inductive Entry where
  /-- Nothing more is read: a one-byte instruction, or an opcode that faults at decode (R422). -/
  | done (i : Instr)
  /-- One byte `n` or `e` at pc + 1 (F2n, F2e). -/
  | imm8 (k : Byte → Instr)
  /-- Two bytes, `nn[7:0]` at pc + 1 and `nn[15:8]` at pc + 2 (F3). -/
  | imm16 (k : Word → Instr)
  /-- The escape byte: `op2` at pc + 1 (CB). -/
  | escape

/-- How many bytes decode reads for a row. -/
def Entry.bytes : Entry → Nat
  | .done _ => 1
  | .imm8 _ => 2
  | .imm16 _ => 3
  | .escape => 2

/-- Primary opcodes with x = 0 (R122). -/
def primaryBlock0 (y z : Nat) : Entry :=
  match z with
  | 0 =>
    match y with
    | 0 => .done .nop
    | 1 => .imm16 .ldAtImm16SP
    | 2 => .done .stop
    | 3 => .imm8 .jrDisp
    | _ => .imm8 (jrCcInstr (condOfCode (y - 4)))
  | 1 =>
    if y % 2 = 0 then .imm16 (ldPairInstr (pairOfCode (y / 2))) else .done (addHlInstr (pairOfCode (y / 2)))
  | 2 =>
    match y with
    | 0 => .done .ldAtBCA
    | 1 => .done .ldAAtBC
    | 2 => .done .ldAtDEA
    | 3 => .done .ldAAtDE
    | 4 => .done .ldAtHLIncA
    | 5 => .done .ldAAtHLInc
    | 6 => .done .ldAtHLDecA
    | _ => .done .ldAAtHLDec
  | 3 => if y % 2 = 0 then .done (incPairInstr (pairOfCode (y / 2))) else .done (decPairInstr (pairOfCode (y / 2)))
  | 4 => .done (incInstr (r8OfCode y))
  | 5 => .done (decInstr (r8OfCode y))
  | 6 => .imm8 (ldImmInstr (r8OfCode y))
  | _ =>
    match y with
    | 0 => .done .rlca
    | 1 => .done .rrca
    | 2 => .done .rla
    | 3 => .done .rra
    | 4 => .done .daa
    | 5 => .done .cpl
    | 6 => .done .scf
    | _ => .done .ccf

/-- Primary opcodes with x = 3 (R123). -/
def primaryBlock3 (y z : Nat) : Entry :=
  match z with
  | 0 =>
    match y with
    | 4 => .imm8 .ldhAtImmA
    | 5 => .done .addSPDisp
    | 6 => .imm8 .ldhAAtImm
    | 7 => .imm8 .ldHLSPDisp
    | _ => .done (retCcInstr (condOfCode y))
  | 1 =>
    if y % 2 = 0 then .done (popInstr (stackPairOfCode (y / 2)))
    else
      match y / 2 with
      | 0 => .done .ret
      | 1 => .done .reti
      | 2 => .done .jpAtHL
      | _ => .done .ldSPHL
  | 2 =>
    match y with
    | 4 => .done .ldAtCA
    | 5 => .imm16 .ldAtImm16A
    | 6 => .done .ldAAtC
    | 7 => .imm16 .ldAAtImm16
    | _ => .imm16 (jpCcInstr (condOfCode y))
  | 3 =>
    match y with
    | 0 => .imm16 .jpImm16
    | 1 => .escape
    | 2 => .done .unusedD3
    | 3 => .done .unusedDB
    | 4 => .done .unusedE3
    | 5 => .done .unusedEB
    | 6 => .done .di
    | _ => .done .ei
  | 4 =>
    match y with
    | 4 => .done .unusedE4
    | 5 => .done .unusedEC
    | 6 => .done .unusedF4
    | 7 => .done .unusedFC
    | _ => .imm16 (callCcInstr (condOfCode y))
  | 5 =>
    if y % 2 = 0 then .done (pushInstr (stackPairOfCode (y / 2)))
    else
      match y / 2 with
      | 0 => .imm16 .callImm16
      | 1 => .done .unusedDD
      | 2 => .done .unusedED
      | _ => .done .unusedFD
  | 6 => .imm8 (aluImmInstr (aluOfCode y))
  | _ => .done (rstInstr (idxOfCode y))

/-- The primary table (R120 to R124): `x = op[7:6]`, `y = op[5:3]`, `z = op[2:0]` (R111). -/
def primaryEntry (op : Byte) : Entry :=
  let y := op.toNat / 8 % 8
  let z := op.toNat % 8
  match op.toNat / 64 with
  | 0 => primaryBlock0 y z
  | 1 => .done (ldInstr (r8OfCode y) (r8OfCode z))
  | 2 => .done (aluInstr (aluOfCode y) (r8OfCode z))
  | _ => primaryBlock3 y z

/-- The escape table (R125). -/
def escapeTable (op2 : Byte) : Instr :=
  let y := op2.toNat / 8 % 8
  let z := op2.toNat % 8
  match op2.toNat / 64 with
  | 0 => rotInstr (rotOfCode y) (r8OfCode z)
  | 1 => bitInstr (idxOfCode y) (r8OfCode z)
  | 2 => resInstr (idxOfCode y) (r8OfCode z)
  | _ => setInstr (idxOfCode y) (r8OfCode z)

/-- The instruction a term stands for: the escape byte's own row is the escape table's row for its `op2` (R406). -/
def Instr.core : Instr → Instr
  | .prefixCB op2 => escapeTable op2
  | i => i

/-- The class of a primary opcode (R126). -/
inductive OpClass where
  | instruction | escape | unused | unimplemented
  deriving DecidableEq, Repr

/-- The class of each primary opcode: the escape byte (R406), the eleven unused values (R127), the three
unimplemented ones (R128), and the 241 instructions (R126). -/
def opClass (op : Byte) : OpClass :=
  match op.toNat with
  | 0xCB => .escape
  | 0xD3 | 0xDB | 0xDD | 0xE3 | 0xE4 | 0xEB | 0xEC | 0xED | 0xF4 | 0xFC | 0xFD => .unused
  | 0x10 | 0x76 | 0xE8 => .unimplemented
  | _ => .instruction

/-! ### Decode -/

/-- Decode after the opcode byte (R112, R150): read the row's further bytes through `rd`, which answers the byte at an
offset from the opcode, or why it cannot; the byte at offset 1 is read before the one at offset 2. -/
def decodeRest {ε : Type} (op : Byte) (rd : Nat → Except ε Byte) : Except ε Instr :=
  match primaryEntry op with
  | .done i => .ok i
  | .imm8 k =>
    match rd 1 with
    | .error x => .error x
    | .ok n => .ok (k n)
  | .imm16 k =>
    match rd 1 with
    | .error x => .error x
    | .ok lo =>
      match rd 2 with
      | .error x => .error x
      | .ok hi => .ok (k (join hi lo))
  | .escape =>
    match rd 1 with
    | .error x => .error x
    | .ok op2 => .ok (escapeTable op2)

/-- Decode one instruction through a reader of the bytes at its address (R110, R112). -/
def decodeWith {ε : Type} (rd : Nat → Except ε Byte) : Except ε Instr :=
  match rd 0 with
  | .error x => .error x
  | .ok op => decodeRest op rd

/-- Why decode refuses a list of bytes: it ends before the byte at this offset. Every byte value itself decodes (R129)
(DESIGN CHOICE, safe: log entry 15). -/
inductive DecodeReject where
  | truncated (offset : Nat)
  deriving DecidableEq, Repr

/-- The byte at an offset of a list. -/
def byteAt (bs : List Byte) (k : Nat) : Except DecodeReject Byte :=
  match bs[k]? with
  | some v => .ok v
  | none => .error (.truncated k)

/-- Decode a list of bytes in address order: the instruction and the bytes decode did not read. -/
def decode (bs : List Byte) : Except DecodeReject (Instr × List Byte) :=
  match decodeWith (byteAt bs) with
  | .error x => .error x
  | .ok i => .ok (i, bs.drop ((primaryEntry (bs.headD 0)).bytes))

/-- The bytes of an instruction whose bits are `w`, `nbits` of them given and the rest zero. The table numbers an escape
row's sixteen bits with 0xCB as the high byte (R134: "an address-order key"); any other number counts from the least
significant bit of the first byte (DESIGN CHOICE, safe: log entry 10). -/
def tableBytes (nbits w : Nat) : List Byte :=
  let v := w % 2 ^ nbits
  if nbits = 16 ∧ v / 256 = 0xCB then [0xCB, BitVec.ofNat 8 v, 0]
  else [BitVec.ofNat 8 v, BitVec.ofNat 8 (v / 256), BitVec.ofNat 8 (v / 65536)]

/-- The instruction decode reads from such a word. -/
def decodeTableWord (nbits w : Nat) : Option Instr :=
  match decode (tableBytes nbits w) with
  | .ok (i, _) => some i
  | .error _ => none

/-! ### Encode -/

/-- The bytes of an instruction in address order, as opcode_table.json's rows give them (R111). Of STOP and ADD SP,e the
one byte that is ever read (R404, R313) (DESIGN CHOICE, safe: log entry 8). -/
def encode : Instr → List Byte
  | .nop => [0x00]
  | .ldBCImm16 nn => [0x01, lo8 nn, hi8 nn]
  | .ldAtBCA => [0x02]
  | .incBC => [0x03]
  | .incB => [0x04]
  | .decB => [0x05]
  | .ldBImm n => [0x06, n]
  | .rlca => [0x07]
  | .ldAtImm16SP nn => [0x08, lo8 nn, hi8 nn]
  | .addHLBC => [0x09]
  | .ldAAtBC => [0x0A]
  | .decBC => [0x0B]
  | .incC => [0x0C]
  | .decC => [0x0D]
  | .ldCImm n => [0x0E, n]
  | .rrca => [0x0F]
  | .stop => [0x10]
  | .ldDEImm16 nn => [0x11, lo8 nn, hi8 nn]
  | .ldAtDEA => [0x12]
  | .incDE => [0x13]
  | .incD => [0x14]
  | .decD => [0x15]
  | .ldDImm n => [0x16, n]
  | .rla => [0x17]
  | .jrDisp e => [0x18, e]
  | .addHLDE => [0x19]
  | .ldAAtDE => [0x1A]
  | .decDE => [0x1B]
  | .incE => [0x1C]
  | .decE => [0x1D]
  | .ldEImm n => [0x1E, n]
  | .rra => [0x1F]
  | .jrNZDisp e => [0x20, e]
  | .ldHLImm16 nn => [0x21, lo8 nn, hi8 nn]
  | .ldAtHLIncA => [0x22]
  | .incHL => [0x23]
  | .incH => [0x24]
  | .decH => [0x25]
  | .ldHImm n => [0x26, n]
  | .daa => [0x27]
  | .jrZDisp e => [0x28, e]
  | .addHLHL => [0x29]
  | .ldAAtHLInc => [0x2A]
  | .decHL => [0x2B]
  | .incL => [0x2C]
  | .decL => [0x2D]
  | .ldLImm n => [0x2E, n]
  | .cpl => [0x2F]
  | .jrNCDisp e => [0x30, e]
  | .ldSPImm16 nn => [0x31, lo8 nn, hi8 nn]
  | .ldAtHLDecA => [0x32]
  | .incSP => [0x33]
  | .incAtHL => [0x34]
  | .decAtHL => [0x35]
  | .ldAtHLImm n => [0x36, n]
  | .scf => [0x37]
  | .jrCDisp e => [0x38, e]
  | .addHLSP => [0x39]
  | .ldAAtHLDec => [0x3A]
  | .decSP => [0x3B]
  | .incA => [0x3C]
  | .decA => [0x3D]
  | .ldAImm n => [0x3E, n]
  | .ccf => [0x3F]
  | .ldBB => [0x40]
  | .ldBC => [0x41]
  | .ldBD => [0x42]
  | .ldBE => [0x43]
  | .ldBH => [0x44]
  | .ldBL => [0x45]
  | .ldBAtHL => [0x46]
  | .ldBA => [0x47]
  | .ldCB => [0x48]
  | .ldCC => [0x49]
  | .ldCD => [0x4A]
  | .ldCE => [0x4B]
  | .ldCH => [0x4C]
  | .ldCL => [0x4D]
  | .ldCAtHL => [0x4E]
  | .ldCA => [0x4F]
  | .ldDB => [0x50]
  | .ldDC => [0x51]
  | .ldDD => [0x52]
  | .ldDE => [0x53]
  | .ldDH => [0x54]
  | .ldDL => [0x55]
  | .ldDAtHL => [0x56]
  | .ldDA => [0x57]
  | .ldEB => [0x58]
  | .ldEC => [0x59]
  | .ldED => [0x5A]
  | .ldEE => [0x5B]
  | .ldEH => [0x5C]
  | .ldEL => [0x5D]
  | .ldEAtHL => [0x5E]
  | .ldEA => [0x5F]
  | .ldHB => [0x60]
  | .ldHC => [0x61]
  | .ldHD => [0x62]
  | .ldHE => [0x63]
  | .ldHH => [0x64]
  | .ldHL => [0x65]
  | .ldHAtHL => [0x66]
  | .ldHA => [0x67]
  | .ldLB => [0x68]
  | .ldLC => [0x69]
  | .ldLD => [0x6A]
  | .ldLE => [0x6B]
  | .ldLH => [0x6C]
  | .ldLL => [0x6D]
  | .ldLAtHL => [0x6E]
  | .ldLA => [0x6F]
  | .ldAtHLB => [0x70]
  | .ldAtHLC => [0x71]
  | .ldAtHLD => [0x72]
  | .ldAtHLE => [0x73]
  | .ldAtHLH => [0x74]
  | .ldAtHLL => [0x75]
  | .halt => [0x76]
  | .ldAtHLA => [0x77]
  | .ldAB => [0x78]
  | .ldAC => [0x79]
  | .ldAD => [0x7A]
  | .ldAE => [0x7B]
  | .ldAH => [0x7C]
  | .ldAL => [0x7D]
  | .ldAAtHL => [0x7E]
  | .ldAA => [0x7F]
  | .addAB => [0x80]
  | .addAC => [0x81]
  | .addAD => [0x82]
  | .addAE => [0x83]
  | .addAH => [0x84]
  | .addAL => [0x85]
  | .addAAtHL => [0x86]
  | .addAA => [0x87]
  | .adcAB => [0x88]
  | .adcAC => [0x89]
  | .adcAD => [0x8A]
  | .adcAE => [0x8B]
  | .adcAH => [0x8C]
  | .adcAL => [0x8D]
  | .adcAAtHL => [0x8E]
  | .adcAA => [0x8F]
  | .subB => [0x90]
  | .subC => [0x91]
  | .subD => [0x92]
  | .subE => [0x93]
  | .subH => [0x94]
  | .subL => [0x95]
  | .subAtHL => [0x96]
  | .subA => [0x97]
  | .sbcAB => [0x98]
  | .sbcAC => [0x99]
  | .sbcAD => [0x9A]
  | .sbcAE => [0x9B]
  | .sbcAH => [0x9C]
  | .sbcAL => [0x9D]
  | .sbcAAtHL => [0x9E]
  | .sbcAA => [0x9F]
  | .andB => [0xA0]
  | .andC => [0xA1]
  | .andD => [0xA2]
  | .andE => [0xA3]
  | .andH => [0xA4]
  | .andL => [0xA5]
  | .andAtHL => [0xA6]
  | .andA => [0xA7]
  | .xorB => [0xA8]
  | .xorC => [0xA9]
  | .xorD => [0xAA]
  | .xorE => [0xAB]
  | .xorH => [0xAC]
  | .xorL => [0xAD]
  | .xorAtHL => [0xAE]
  | .xorA => [0xAF]
  | .orB => [0xB0]
  | .orC => [0xB1]
  | .orD => [0xB2]
  | .orE => [0xB3]
  | .orH => [0xB4]
  | .orL => [0xB5]
  | .orAtHL => [0xB6]
  | .orA => [0xB7]
  | .cpB => [0xB8]
  | .cpC => [0xB9]
  | .cpD => [0xBA]
  | .cpE => [0xBB]
  | .cpH => [0xBC]
  | .cpL => [0xBD]
  | .cpAtHL => [0xBE]
  | .cpA => [0xBF]
  | .retNZ => [0xC0]
  | .popBC => [0xC1]
  | .jpNZImm16 nn => [0xC2, lo8 nn, hi8 nn]
  | .jpImm16 nn => [0xC3, lo8 nn, hi8 nn]
  | .callNZImm16 nn => [0xC4, lo8 nn, hi8 nn]
  | .pushBC => [0xC5]
  | .addAImm n => [0xC6, n]
  | .rst00 => [0xC7]
  | .retZ => [0xC8]
  | .ret => [0xC9]
  | .jpZImm16 nn => [0xCA, lo8 nn, hi8 nn]
  | .prefixCB op2 => [0xCB, op2]
  | .callZImm16 nn => [0xCC, lo8 nn, hi8 nn]
  | .callImm16 nn => [0xCD, lo8 nn, hi8 nn]
  | .adcAImm n => [0xCE, n]
  | .rst08 => [0xCF]
  | .retNC => [0xD0]
  | .popDE => [0xD1]
  | .jpNCImm16 nn => [0xD2, lo8 nn, hi8 nn]
  | .unusedD3 => [0xD3]
  | .callNCImm16 nn => [0xD4, lo8 nn, hi8 nn]
  | .pushDE => [0xD5]
  | .subImm n => [0xD6, n]
  | .rst10 => [0xD7]
  | .retC => [0xD8]
  | .reti => [0xD9]
  | .jpCImm16 nn => [0xDA, lo8 nn, hi8 nn]
  | .unusedDB => [0xDB]
  | .callCImm16 nn => [0xDC, lo8 nn, hi8 nn]
  | .unusedDD => [0xDD]
  | .sbcAImm n => [0xDE, n]
  | .rst18 => [0xDF]
  | .ldhAtImmA n => [0xE0, n]
  | .popHL => [0xE1]
  | .ldAtCA => [0xE2]
  | .unusedE3 => [0xE3]
  | .unusedE4 => [0xE4]
  | .pushHL => [0xE5]
  | .andImm n => [0xE6, n]
  | .rst20 => [0xE7]
  | .addSPDisp => [0xE8]
  | .jpAtHL => [0xE9]
  | .ldAtImm16A nn => [0xEA, lo8 nn, hi8 nn]
  | .unusedEB => [0xEB]
  | .unusedEC => [0xEC]
  | .unusedED => [0xED]
  | .xorImm n => [0xEE, n]
  | .rst28 => [0xEF]
  | .ldhAAtImm n => [0xF0, n]
  | .popAF => [0xF1]
  | .ldAAtC => [0xF2]
  | .di => [0xF3]
  | .unusedF4 => [0xF4]
  | .pushAF => [0xF5]
  | .orImm n => [0xF6, n]
  | .rst30 => [0xF7]
  | .ldHLSPDisp e => [0xF8, e]
  | .ldSPHL => [0xF9]
  | .ldAAtImm16 nn => [0xFA, lo8 nn, hi8 nn]
  | .ei => [0xFB]
  | .unusedFC => [0xFC]
  | .unusedFD => [0xFD]
  | .cpImm n => [0xFE, n]
  | .rst38 => [0xFF]
  | .rlcB => [0xCB, 0x00]
  | .rlcC => [0xCB, 0x01]
  | .rlcD => [0xCB, 0x02]
  | .rlcE => [0xCB, 0x03]
  | .rlcH => [0xCB, 0x04]
  | .rlcL => [0xCB, 0x05]
  | .rlcAtHL => [0xCB, 0x06]
  | .rlcA => [0xCB, 0x07]
  | .rrcB => [0xCB, 0x08]
  | .rrcC => [0xCB, 0x09]
  | .rrcD => [0xCB, 0x0A]
  | .rrcE => [0xCB, 0x0B]
  | .rrcH => [0xCB, 0x0C]
  | .rrcL => [0xCB, 0x0D]
  | .rrcAtHL => [0xCB, 0x0E]
  | .rrcA => [0xCB, 0x0F]
  | .rlB => [0xCB, 0x10]
  | .rlC => [0xCB, 0x11]
  | .rlD => [0xCB, 0x12]
  | .rlE => [0xCB, 0x13]
  | .rlH => [0xCB, 0x14]
  | .rlL => [0xCB, 0x15]
  | .rlAtHL => [0xCB, 0x16]
  | .rlA => [0xCB, 0x17]
  | .rrB => [0xCB, 0x18]
  | .rrC => [0xCB, 0x19]
  | .rrD => [0xCB, 0x1A]
  | .rrE => [0xCB, 0x1B]
  | .rrH => [0xCB, 0x1C]
  | .rrL => [0xCB, 0x1D]
  | .rrAtHL => [0xCB, 0x1E]
  | .rrA => [0xCB, 0x1F]
  | .slaB => [0xCB, 0x20]
  | .slaC => [0xCB, 0x21]
  | .slaD => [0xCB, 0x22]
  | .slaE => [0xCB, 0x23]
  | .slaH => [0xCB, 0x24]
  | .slaL => [0xCB, 0x25]
  | .slaAtHL => [0xCB, 0x26]
  | .slaA => [0xCB, 0x27]
  | .sraB => [0xCB, 0x28]
  | .sraC => [0xCB, 0x29]
  | .sraD => [0xCB, 0x2A]
  | .sraE => [0xCB, 0x2B]
  | .sraH => [0xCB, 0x2C]
  | .sraL => [0xCB, 0x2D]
  | .sraAtHL => [0xCB, 0x2E]
  | .sraA => [0xCB, 0x2F]
  | .swapB => [0xCB, 0x30]
  | .swapC => [0xCB, 0x31]
  | .swapD => [0xCB, 0x32]
  | .swapE => [0xCB, 0x33]
  | .swapH => [0xCB, 0x34]
  | .swapL => [0xCB, 0x35]
  | .swapAtHL => [0xCB, 0x36]
  | .swapA => [0xCB, 0x37]
  | .srlB => [0xCB, 0x38]
  | .srlC => [0xCB, 0x39]
  | .srlD => [0xCB, 0x3A]
  | .srlE => [0xCB, 0x3B]
  | .srlH => [0xCB, 0x3C]
  | .srlL => [0xCB, 0x3D]
  | .srlAtHL => [0xCB, 0x3E]
  | .srlA => [0xCB, 0x3F]
  | .bit0B => [0xCB, 0x40]
  | .bit0C => [0xCB, 0x41]
  | .bit0D => [0xCB, 0x42]
  | .bit0E => [0xCB, 0x43]
  | .bit0H => [0xCB, 0x44]
  | .bit0L => [0xCB, 0x45]
  | .bit0AtHL => [0xCB, 0x46]
  | .bit0A => [0xCB, 0x47]
  | .bit1B => [0xCB, 0x48]
  | .bit1C => [0xCB, 0x49]
  | .bit1D => [0xCB, 0x4A]
  | .bit1E => [0xCB, 0x4B]
  | .bit1H => [0xCB, 0x4C]
  | .bit1L => [0xCB, 0x4D]
  | .bit1AtHL => [0xCB, 0x4E]
  | .bit1A => [0xCB, 0x4F]
  | .bit2B => [0xCB, 0x50]
  | .bit2C => [0xCB, 0x51]
  | .bit2D => [0xCB, 0x52]
  | .bit2E => [0xCB, 0x53]
  | .bit2H => [0xCB, 0x54]
  | .bit2L => [0xCB, 0x55]
  | .bit2AtHL => [0xCB, 0x56]
  | .bit2A => [0xCB, 0x57]
  | .bit3B => [0xCB, 0x58]
  | .bit3C => [0xCB, 0x59]
  | .bit3D => [0xCB, 0x5A]
  | .bit3E => [0xCB, 0x5B]
  | .bit3H => [0xCB, 0x5C]
  | .bit3L => [0xCB, 0x5D]
  | .bit3AtHL => [0xCB, 0x5E]
  | .bit3A => [0xCB, 0x5F]
  | .bit4B => [0xCB, 0x60]
  | .bit4C => [0xCB, 0x61]
  | .bit4D => [0xCB, 0x62]
  | .bit4E => [0xCB, 0x63]
  | .bit4H => [0xCB, 0x64]
  | .bit4L => [0xCB, 0x65]
  | .bit4AtHL => [0xCB, 0x66]
  | .bit4A => [0xCB, 0x67]
  | .bit5B => [0xCB, 0x68]
  | .bit5C => [0xCB, 0x69]
  | .bit5D => [0xCB, 0x6A]
  | .bit5E => [0xCB, 0x6B]
  | .bit5H => [0xCB, 0x6C]
  | .bit5L => [0xCB, 0x6D]
  | .bit5AtHL => [0xCB, 0x6E]
  | .bit5A => [0xCB, 0x6F]
  | .bit6B => [0xCB, 0x70]
  | .bit6C => [0xCB, 0x71]
  | .bit6D => [0xCB, 0x72]
  | .bit6E => [0xCB, 0x73]
  | .bit6H => [0xCB, 0x74]
  | .bit6L => [0xCB, 0x75]
  | .bit6AtHL => [0xCB, 0x76]
  | .bit6A => [0xCB, 0x77]
  | .bit7B => [0xCB, 0x78]
  | .bit7C => [0xCB, 0x79]
  | .bit7D => [0xCB, 0x7A]
  | .bit7E => [0xCB, 0x7B]
  | .bit7H => [0xCB, 0x7C]
  | .bit7L => [0xCB, 0x7D]
  | .bit7AtHL => [0xCB, 0x7E]
  | .bit7A => [0xCB, 0x7F]
  | .res0B => [0xCB, 0x80]
  | .res0C => [0xCB, 0x81]
  | .res0D => [0xCB, 0x82]
  | .res0E => [0xCB, 0x83]
  | .res0H => [0xCB, 0x84]
  | .res0L => [0xCB, 0x85]
  | .res0AtHL => [0xCB, 0x86]
  | .res0A => [0xCB, 0x87]
  | .res1B => [0xCB, 0x88]
  | .res1C => [0xCB, 0x89]
  | .res1D => [0xCB, 0x8A]
  | .res1E => [0xCB, 0x8B]
  | .res1H => [0xCB, 0x8C]
  | .res1L => [0xCB, 0x8D]
  | .res1AtHL => [0xCB, 0x8E]
  | .res1A => [0xCB, 0x8F]
  | .res2B => [0xCB, 0x90]
  | .res2C => [0xCB, 0x91]
  | .res2D => [0xCB, 0x92]
  | .res2E => [0xCB, 0x93]
  | .res2H => [0xCB, 0x94]
  | .res2L => [0xCB, 0x95]
  | .res2AtHL => [0xCB, 0x96]
  | .res2A => [0xCB, 0x97]
  | .res3B => [0xCB, 0x98]
  | .res3C => [0xCB, 0x99]
  | .res3D => [0xCB, 0x9A]
  | .res3E => [0xCB, 0x9B]
  | .res3H => [0xCB, 0x9C]
  | .res3L => [0xCB, 0x9D]
  | .res3AtHL => [0xCB, 0x9E]
  | .res3A => [0xCB, 0x9F]
  | .res4B => [0xCB, 0xA0]
  | .res4C => [0xCB, 0xA1]
  | .res4D => [0xCB, 0xA2]
  | .res4E => [0xCB, 0xA3]
  | .res4H => [0xCB, 0xA4]
  | .res4L => [0xCB, 0xA5]
  | .res4AtHL => [0xCB, 0xA6]
  | .res4A => [0xCB, 0xA7]
  | .res5B => [0xCB, 0xA8]
  | .res5C => [0xCB, 0xA9]
  | .res5D => [0xCB, 0xAA]
  | .res5E => [0xCB, 0xAB]
  | .res5H => [0xCB, 0xAC]
  | .res5L => [0xCB, 0xAD]
  | .res5AtHL => [0xCB, 0xAE]
  | .res5A => [0xCB, 0xAF]
  | .res6B => [0xCB, 0xB0]
  | .res6C => [0xCB, 0xB1]
  | .res6D => [0xCB, 0xB2]
  | .res6E => [0xCB, 0xB3]
  | .res6H => [0xCB, 0xB4]
  | .res6L => [0xCB, 0xB5]
  | .res6AtHL => [0xCB, 0xB6]
  | .res6A => [0xCB, 0xB7]
  | .res7B => [0xCB, 0xB8]
  | .res7C => [0xCB, 0xB9]
  | .res7D => [0xCB, 0xBA]
  | .res7E => [0xCB, 0xBB]
  | .res7H => [0xCB, 0xBC]
  | .res7L => [0xCB, 0xBD]
  | .res7AtHL => [0xCB, 0xBE]
  | .res7A => [0xCB, 0xBF]
  | .set0B => [0xCB, 0xC0]
  | .set0C => [0xCB, 0xC1]
  | .set0D => [0xCB, 0xC2]
  | .set0E => [0xCB, 0xC3]
  | .set0H => [0xCB, 0xC4]
  | .set0L => [0xCB, 0xC5]
  | .set0AtHL => [0xCB, 0xC6]
  | .set0A => [0xCB, 0xC7]
  | .set1B => [0xCB, 0xC8]
  | .set1C => [0xCB, 0xC9]
  | .set1D => [0xCB, 0xCA]
  | .set1E => [0xCB, 0xCB]
  | .set1H => [0xCB, 0xCC]
  | .set1L => [0xCB, 0xCD]
  | .set1AtHL => [0xCB, 0xCE]
  | .set1A => [0xCB, 0xCF]
  | .set2B => [0xCB, 0xD0]
  | .set2C => [0xCB, 0xD1]
  | .set2D => [0xCB, 0xD2]
  | .set2E => [0xCB, 0xD3]
  | .set2H => [0xCB, 0xD4]
  | .set2L => [0xCB, 0xD5]
  | .set2AtHL => [0xCB, 0xD6]
  | .set2A => [0xCB, 0xD7]
  | .set3B => [0xCB, 0xD8]
  | .set3C => [0xCB, 0xD9]
  | .set3D => [0xCB, 0xDA]
  | .set3E => [0xCB, 0xDB]
  | .set3H => [0xCB, 0xDC]
  | .set3L => [0xCB, 0xDD]
  | .set3AtHL => [0xCB, 0xDE]
  | .set3A => [0xCB, 0xDF]
  | .set4B => [0xCB, 0xE0]
  | .set4C => [0xCB, 0xE1]
  | .set4D => [0xCB, 0xE2]
  | .set4E => [0xCB, 0xE3]
  | .set4H => [0xCB, 0xE4]
  | .set4L => [0xCB, 0xE5]
  | .set4AtHL => [0xCB, 0xE6]
  | .set4A => [0xCB, 0xE7]
  | .set5B => [0xCB, 0xE8]
  | .set5C => [0xCB, 0xE9]
  | .set5D => [0xCB, 0xEA]
  | .set5E => [0xCB, 0xEB]
  | .set5H => [0xCB, 0xEC]
  | .set5L => [0xCB, 0xED]
  | .set5AtHL => [0xCB, 0xEE]
  | .set5A => [0xCB, 0xEF]
  | .set6B => [0xCB, 0xF0]
  | .set6C => [0xCB, 0xF1]
  | .set6D => [0xCB, 0xF2]
  | .set6E => [0xCB, 0xF3]
  | .set6H => [0xCB, 0xF4]
  | .set6L => [0xCB, 0xF5]
  | .set6AtHL => [0xCB, 0xF6]
  | .set6A => [0xCB, 0xF7]
  | .set7B => [0xCB, 0xF8]
  | .set7C => [0xCB, 0xF9]
  | .set7D => [0xCB, 0xFA]
  | .set7E => [0xCB, 0xFB]
  | .set7H => [0xCB, 0xFC]
  | .set7L => [0xCB, 0xFD]
  | .set7AtHL => [0xCB, 0xFE]
  | .set7A => [0xCB, 0xFF]

/-! ### The other columns of the opcode table -/

/-- What an instruction does to one flag: a character of the table's `flags` string (R174). -/
inductive FlagEffect where
  /-- `-`: unchanged. -/
  | keep
  /-- `0`. -/
  | zero
  /-- `1`. -/
  | one
  /-- A letter: written from the result. -/
  | result
  deriving DecidableEq, Repr

/-- The columns `length`, `cycles`, `cycles_not_taken` and `flags` of a row (R134); the two costs are `none` where the
table has null. -/
structure Row where
  length : Nat
  cycles : Option Nat
  cyclesNotTaken : Option Nat
  z : FlagEffect
  n : FlagEffect
  h : FlagEffect
  c : FlagEffect
  deriving DecidableEq, Repr

/-- The row of an instruction in opcode_table.json. -/
def Instr.row : Instr → Row
  | .nop | .ldBB | .ldBC | .ldBD | .ldBE | .ldBH | .ldBL | .ldBA
  | .ldCB | .ldCC | .ldCD | .ldCE | .ldCH | .ldCL | .ldCA | .ldDB
  | .ldDC | .ldDD | .ldDE | .ldDH | .ldDL | .ldDA | .ldEB | .ldEC
  | .ldED | .ldEE | .ldEH | .ldEL | .ldEA | .ldHB | .ldHC | .ldHD
  | .ldHE | .ldHH | .ldHL | .ldHA | .ldLB | .ldLC | .ldLD | .ldLE
  | .ldLH | .ldLL | .ldLA | .ldAB | .ldAC | .ldAD | .ldAE | .ldAH
  | .ldAL | .ldAA | .jpAtHL | .di | .ei => ⟨1, (some 4), none, .keep, .keep, .keep, .keep⟩
  | .ldBCImm16 _ | .ldDEImm16 _ | .ldHLImm16 _ | .ldSPImm16 _ => ⟨3, (some 12), none, .keep, .keep, .keep, .keep⟩
  | .ldAtBCA | .incBC | .ldAAtBC | .decBC | .ldAtDEA | .incDE | .ldAAtDE | .decDE
  | .ldAtHLIncA | .incHL | .ldAAtHLInc | .decHL | .ldAtHLDecA | .incSP | .ldAAtHLDec | .decSP
  | .ldBAtHL | .ldCAtHL | .ldDAtHL | .ldEAtHL | .ldHAtHL | .ldLAtHL | .ldAtHLB | .ldAtHLC
  | .ldAtHLD | .ldAtHLE | .ldAtHLH | .ldAtHLL | .ldAtHLA | .ldAAtHL | .ldAtCA | .ldAAtC
  | .ldSPHL => ⟨1, (some 8), none, .keep, .keep, .keep, .keep⟩
  | .incB | .incC | .incD | .incE | .incH | .incL | .incA => ⟨1, (some 4), none, .result, .zero, .result, .keep⟩
  | .decB | .decC | .decD | .decE | .decH | .decL | .decA => ⟨1, (some 4), none, .result, .one, .result, .keep⟩
  | .ldBImm _ | .ldCImm _ | .ldDImm _ | .ldEImm _ | .ldHImm _ | .ldLImm _ | .ldAImm _ | .res0B
  | .res0C | .res0D | .res0E | .res0H | .res0L | .res0A | .res1B | .res1C
  | .res1D | .res1E | .res1H | .res1L | .res1A | .res2B | .res2C | .res2D
  | .res2E | .res2H | .res2L | .res2A | .res3B | .res3C | .res3D | .res3E
  | .res3H | .res3L | .res3A | .res4B | .res4C | .res4D | .res4E | .res4H
  | .res4L | .res4A | .res5B | .res5C | .res5D | .res5E | .res5H | .res5L
  | .res5A | .res6B | .res6C | .res6D | .res6E | .res6H | .res6L | .res6A
  | .res7B | .res7C | .res7D | .res7E | .res7H | .res7L | .res7A | .set0B
  | .set0C | .set0D | .set0E | .set0H | .set0L | .set0A | .set1B | .set1C
  | .set1D | .set1E | .set1H | .set1L | .set1A | .set2B | .set2C | .set2D
  | .set2E | .set2H | .set2L | .set2A | .set3B | .set3C | .set3D | .set3E
  | .set3H | .set3L | .set3A | .set4B | .set4C | .set4D | .set4E | .set4H
  | .set4L | .set4A | .set5B | .set5C | .set5D | .set5E | .set5H | .set5L
  | .set5A | .set6B | .set6C | .set6D | .set6E | .set6H | .set6L | .set6A
  | .set7B | .set7C | .set7D | .set7E | .set7H | .set7L | .set7A => ⟨2, (some 8), none, .keep, .keep, .keep, .keep⟩
  | .rlca | .rrca | .rla | .rra => ⟨1, (some 4), none, .zero, .zero, .zero, .result⟩
  | .ldAtImm16SP _ => ⟨3, (some 20), none, .keep, .keep, .keep, .keep⟩
  | .addHLBC | .addHLDE | .addHLHL | .addHLSP => ⟨1, (some 8), none, .keep, .zero, .result, .result⟩
  | .stop | .prefixCB _ | .addSPDisp => ⟨2, none, none, .keep, .keep, .keep, .keep⟩
  | .jrDisp _ | .ldAtHLImm _ | .ldhAtImmA _ | .ldhAAtImm _ => ⟨2, (some 12), none, .keep, .keep, .keep, .keep⟩
  | .jrNZDisp _ | .jrZDisp _ | .jrNCDisp _ | .jrCDisp _ => ⟨2, (some 12), (some 8), .keep, .keep, .keep, .keep⟩
  | .daa => ⟨1, (some 4), none, .result, .keep, .zero, .result⟩
  | .cpl => ⟨1, (some 4), none, .keep, .one, .one, .keep⟩
  | .incAtHL => ⟨1, (some 12), none, .result, .zero, .result, .keep⟩
  | .decAtHL => ⟨1, (some 12), none, .result, .one, .result, .keep⟩
  | .scf => ⟨1, (some 4), none, .keep, .zero, .zero, .one⟩
  | .ccf => ⟨1, (some 4), none, .keep, .zero, .zero, .result⟩
  | .halt | .unusedD3 | .unusedDB | .unusedDD | .unusedE3 | .unusedE4 | .unusedEB | .unusedEC
  | .unusedED | .unusedF4 | .unusedFC | .unusedFD => ⟨1, none, none, .keep, .keep, .keep, .keep⟩
  | .addAB | .addAC | .addAD | .addAE | .addAH | .addAL | .addAA | .adcAB
  | .adcAC | .adcAD | .adcAE | .adcAH | .adcAL | .adcAA => ⟨1, (some 4), none, .result, .zero, .result, .result⟩
  | .addAAtHL | .adcAAtHL => ⟨1, (some 8), none, .result, .zero, .result, .result⟩
  | .subB | .subC | .subD | .subE | .subH | .subL | .subA | .sbcAB
  | .sbcAC | .sbcAD | .sbcAE | .sbcAH | .sbcAL | .sbcAA | .cpB | .cpC
  | .cpD | .cpE | .cpH | .cpL | .cpA => ⟨1, (some 4), none, .result, .one, .result, .result⟩
  | .subAtHL | .sbcAAtHL | .cpAtHL => ⟨1, (some 8), none, .result, .one, .result, .result⟩
  | .andB | .andC | .andD | .andE | .andH | .andL | .andA => ⟨1, (some 4), none, .result, .zero, .one, .zero⟩
  | .andAtHL => ⟨1, (some 8), none, .result, .zero, .one, .zero⟩
  | .xorB | .xorC | .xorD | .xorE | .xorH | .xorL | .xorA | .orB
  | .orC | .orD | .orE | .orH | .orL | .orA => ⟨1, (some 4), none, .result, .zero, .zero, .zero⟩
  | .xorAtHL | .orAtHL => ⟨1, (some 8), none, .result, .zero, .zero, .zero⟩
  | .retNZ | .retZ | .retNC | .retC => ⟨1, (some 20), (some 8), .keep, .keep, .keep, .keep⟩
  | .popBC | .popDE | .popHL => ⟨1, (some 12), none, .keep, .keep, .keep, .keep⟩
  | .jpNZImm16 _ | .jpZImm16 _ | .jpNCImm16 _ | .jpCImm16 _ => ⟨3, (some 16), (some 12), .keep, .keep, .keep, .keep⟩
  | .jpImm16 _ | .ldAtImm16A _ | .ldAAtImm16 _ => ⟨3, (some 16), none, .keep, .keep, .keep, .keep⟩
  | .callNZImm16 _ | .callZImm16 _ | .callNCImm16 _ | .callCImm16 _ => ⟨3, (some 24), (some 12), .keep, .keep, .keep, .keep⟩
  | .pushBC | .rst00 | .ret | .rst08 | .pushDE | .rst10 | .reti | .rst18
  | .pushHL | .rst20 | .rst28 | .pushAF | .rst30 | .rst38 => ⟨1, (some 16), none, .keep, .keep, .keep, .keep⟩
  | .addAImm _ | .adcAImm _ => ⟨2, (some 8), none, .result, .zero, .result, .result⟩
  | .callImm16 _ => ⟨3, (some 24), none, .keep, .keep, .keep, .keep⟩
  | .subImm _ | .sbcAImm _ | .cpImm _ => ⟨2, (some 8), none, .result, .one, .result, .result⟩
  | .andImm _ => ⟨2, (some 8), none, .result, .zero, .one, .zero⟩
  | .xorImm _ | .orImm _ | .swapB | .swapC | .swapD | .swapE | .swapH | .swapL
  | .swapA => ⟨2, (some 8), none, .result, .zero, .zero, .zero⟩
  | .popAF => ⟨1, (some 12), none, .result, .result, .result, .result⟩
  | .ldHLSPDisp _ => ⟨2, (some 12), none, .zero, .zero, .result, .result⟩
  | .rlcB | .rlcC | .rlcD | .rlcE | .rlcH | .rlcL | .rlcA | .rrcB
  | .rrcC | .rrcD | .rrcE | .rrcH | .rrcL | .rrcA | .rlB | .rlC
  | .rlD | .rlE | .rlH | .rlL | .rlA | .rrB | .rrC | .rrD
  | .rrE | .rrH | .rrL | .rrA | .slaB | .slaC | .slaD | .slaE
  | .slaH | .slaL | .slaA | .sraB | .sraC | .sraD | .sraE | .sraH
  | .sraL | .sraA | .srlB | .srlC | .srlD | .srlE | .srlH | .srlL
  | .srlA => ⟨2, (some 8), none, .result, .zero, .zero, .result⟩
  | .rlcAtHL | .rrcAtHL | .rlAtHL | .rrAtHL | .slaAtHL | .sraAtHL | .srlAtHL => ⟨2, (some 16), none, .result, .zero, .zero, .result⟩
  | .swapAtHL => ⟨2, (some 16), none, .result, .zero, .zero, .zero⟩
  | .bit0B | .bit0C | .bit0D | .bit0E | .bit0H | .bit0L | .bit0A | .bit1B
  | .bit1C | .bit1D | .bit1E | .bit1H | .bit1L | .bit1A | .bit2B | .bit2C
  | .bit2D | .bit2E | .bit2H | .bit2L | .bit2A | .bit3B | .bit3C | .bit3D
  | .bit3E | .bit3H | .bit3L | .bit3A | .bit4B | .bit4C | .bit4D | .bit4E
  | .bit4H | .bit4L | .bit4A | .bit5B | .bit5C | .bit5D | .bit5E | .bit5H
  | .bit5L | .bit5A | .bit6B | .bit6C | .bit6D | .bit6E | .bit6H | .bit6L
  | .bit6A | .bit7B | .bit7C | .bit7D | .bit7E | .bit7H | .bit7L | .bit7A => ⟨2, (some 8), none, .result, .zero, .one, .keep⟩
  | .bit0AtHL | .bit1AtHL | .bit2AtHL | .bit3AtHL | .bit4AtHL | .bit5AtHL | .bit6AtHL | .bit7AtHL => ⟨2, (some 12), none, .result, .zero, .one, .keep⟩
  | .res0AtHL | .res1AtHL | .res2AtHL | .res3AtHL | .res4AtHL | .res5AtHL | .res6AtHL | .res7AtHL
  | .set0AtHL | .set1AtHL | .set2AtHL | .set3AtHL | .set4AtHL | .set5AtHL | .set6AtHL | .set7AtHL => ⟨2, (some 16), none, .keep, .keep, .keep, .keep⟩

end Sys2Proof
end

