-- ==== Sys2Proof/Machine/Flags.lean ====
section
/-! DEFINITION. The ALU and flag generator (40_alu_flags.md): pure functions on bytes and words. A carry is computed on the
exact integers and the result narrowed at the end (R160). -/

namespace Sys2Proof.Machine

/-- A result with the flags an operation puts out (R161). Which of them are written is each instruction's own rule. -/
structure AluOut (w : Nat) where
  r : BitVec w
  z : Bool
  h : Bool
  c : Bool
  deriving DecidableEq, Repr

/-- The low nibble as a number, `v & 0x0F`. -/
def nibble (v : Byte) : Nat := (v &&& 0x0F#8).toNat

/-- `Add8(a, b, cin)` (R161). -/
def add8 (a b : Byte) (cin : Bool) : AluOut 8 :=
  let s := a.toNat + b.toNat + cin.toNat
  let r := BitVec.ofNat 8 s
  { r := r
    z := r == 0#8
    h := decide (nibble a + nibble b + cin.toNat > 0x0F)
    c := decide (s > 0xFF) }

/-- `Sub8(a, b, cin)` (R162). -/
def sub8 (a b : Byte) (cin : Bool) : AluOut 8 :=
  let r := BitVec.ofInt 8 ((a.toNat : Int) - b.toNat - cin.toNat)
  { r := r
    z := r == 0#8
    h := decide (nibble a < nibble b + cin.toNat)
    c := decide (a.toNat < b.toNat + cin.toNat) }

/-- `Add16(a, b)` (R163): half-carry out of bit 11. -/
def add16 (a b : Word) : AluOut 16 :=
  let s := a.toNat + b.toNat
  let r := BitVec.ofNat 16 s
  { r := r
    z := r == 0#16
    h := decide ((a &&& 0x0FFF#16).toNat + (b &&& 0x0FFF#16).toNat > 0x0FFF)
    c := decide (s > 0xFFFF) }

/-- `Sub16(a, b)` (R164). No instruction writes its flags; DEC dd uses its result (R312). -/
def sub16 (a b : Word) : AluOut 16 :=
  let r := BitVec.ofInt 16 ((a.toNat : Int) - b.toNat)
  { r := r
    z := r == 0#16
    h := decide ((a &&& 0x0FFF#16).toNat < (b &&& 0x0FFF#16).toNat)
    c := decide (a.toNat < b.toNat) }

/-- `AddE(v16, e8)` (R166): the sum reads e as signed, h and c come from the unsigned add of the low bytes. The rule has
no z output; LD HL,SP+e writes Z as 0 (R245) (DEDUCED, safe: log entry 17). -/
def addE (v : Word) (e : Byte) : AluOut 16 :=
  { r := v + sext16 e
    z := false
    h := decide ((v &&& 0x000F#16).toNat + nibble e > 0x0F)
    c := decide ((v &&& 0x00FF#16).toNat + e.toNat > 0xFF) }

/-- `And8(a, b)` (R167). -/
def and8 (a b : Byte) : Byte := a &&& b

/-- `Or8(a, b)` (R167). -/
def or8 (a b : Byte) : Byte := a ||| b

/-- `Xor8(a, b)` (R167). -/
def xor8 (a b : Byte) : Byte := a ^^^ b

/-- `Not8(a)` (R167). -/
def not8 (a : Byte) : Byte := ~~~a

/-- A bit as a byte, 0x00 or 0x01. -/
def bitByte (x : Bool) : Byte := if x then 0x01 else 0x00

/-- `BitTest(v, b)` (R173): bit b of v. -/
def bitTest (v : Byte) (b : Nat) : Bool := v.getLsbD b

/-- `RotL(v, useCarry)` (R168) with the incoming carry, and the bit rotated out. -/
def rotL (v : Byte) (useCarry carry : Bool) : Byte × Bool :=
  ((v <<< 1) ||| bitByte (if useCarry then carry else bitTest v 7), bitTest v 7)

/-- `RotR(v, useCarry)` (R168) with the incoming carry, and the bit rotated out. -/
def rotR (v : Byte) (useCarry carry : Bool) : Byte × Bool :=
  ((v >>> 1) ||| (bitByte (if useCarry then carry else bitTest v 0) <<< 7), bitTest v 0)

/-- `ShL(v)` (R168). -/
def shL (v : Byte) : Byte × Bool := (v <<< 1, bitTest v 7)

/-- `ShR(v, arith)` (R168): the arithmetic mode keeps bit 7. -/
def shR (v : Byte) (arith : Bool) : Byte × Bool :=
  ((v >>> 1) ||| (if arith then v &&& 0x80 else 0x00), bitTest v 0)

/-- `Swap8(v)` (R169). -/
def swap8 (v : Byte) : Byte := (v <<< 4) ||| (v >>> 4)

/-- The escape table's first quarter (R334 to R349): the result and the bit C is written with; SWAP clears C (R346). -/
def rotEval (op : RotOp) (v : Byte) (carry : Bool) : Byte × Bool :=
  match op with
  | .rlc => rotL v false carry
  | .rrc => rotR v false carry
  | .rl => rotL v true carry
  | .rr => rotR v true carry
  | .sla => shL v
  | .sra => shR v true
  | .swap => (swap8 v, false)
  | .srl => shR v false

/-- `Daa(a, N, H, C)` (R170): the corrected value and the new carry. -/
def daaEval (a : Byte) (n h c : Bool) : Byte × Bool :=
  if n then
    let a1 := if c then a - 0x60 else a
    let a2 := if h then a1 - 0x06 else a1
    (a2, c)
  else
    let high := c || decide (a.toNat > 0x99)
    let a1 := if high then a + 0x60 else a
    let a2 := if h || decide (nibble a1 > 0x09) then a1 + 0x06 else a1
    (a2, high)

end Sys2Proof.Machine
end

