-- ==== Sys2Proof/Config.lean ====
section
/-! DEFINITION. The named parameters of 00_scope.md R8, which "the model takes as arguments", and their defaults.
Every state carries one such record, so that a statement about all states is a statement about all settings. -/

namespace Sys2Proof

/-- `JR_TARGET_BASE` (R373): the address a relative jump's displacement is added to. -/
inductive JrTargetBase where
  /-- The address after the two-byte instruction. -/
  | next
  /-- The address of the opcode byte. -/
  | opcode
  deriving DecidableEq, Repr

/-- `UNMAPPED_POLICY` (R76): what an access to 0xFEA0 to 0xFEFF does. -/
inductive UnmappedPolicy where
  /-- The access raises `UnmappedAccess`. -/
  | fault
  /-- The 96 bytes are plain storage. -/
  | storage
  deriving DecidableEq, Repr

/-- The parameters of R8. -/
structure Config where
  /-- `JR_TARGET_BASE`, decision D6. -/
  jrTargetBase : JrTargetBase
  /-- `ECHO_MIRROR`, decision D23: whether 0xE000 to 0xFDFF shares storage with 0xC000 to 0xDDFF. -/
  echoMirror : Bool
  /-- `UNMAPPED_POLICY`, decision D24. -/
  unmappedPolicy : UnmappedPolicy
  /-- `ENTRY_PC`, decision D22: the PC the host sets after loading. It is not a reset value. -/
  entryPc : Word
  deriving DecidableEq, Repr

/-- The default of every parameter, as R8 gives it. -/
def Config.standard : Config where
  jrTargetBase := .next
  echoMirror := true
  unmappedPolicy := .fault
  entryPc := 0x0100

end Sys2Proof
end

