-- ==== Sys2Proof/Machine/State.lean ====
section
/-! DEFINITION. The state of the block: the record of 10_state.md R30, with the parameters of 00_scope.md R8 beside it, and
the reset value of every field (R47). Registers, pairs and memory are read and written through the operations of
Machine/Ops.lean and Machine/Memory.lean. -/

namespace Sys2Proof.Machine

/-- The two kinds of bus access a fault records (R424); a fetch is a read. -/
inductive AccessKind where
  | read | write
  deriving DecidableEq, Repr

/-- The register names of the host interface (R39). -/
inductive RegName where
  | a | b | c | d | e | h | l | af | bc | de | hl | sp | pc
  deriving DecidableEq, Repr

/-- The faults (R425): a code and its info. The step or host call that raises one answers a next state whose RUN is
`Faulted` (R420); `step` answers the fault itself in every later state, where no step runs (R45). -/
inductive Fault where
  /-- Code 1: the primary opcode is one of the eleven unused values (R405). Raised by the unused rows' meanings and by the
  host's `lookup`. Safe: the spec's own outcome, and nothing runs on. -/
  | unusedOpcode (opcode : Byte) (pc : Word)
  /-- Code 2: the primary opcode is 0x10, 0x76 or 0xE8 (R403, R404, R313). Raised by those rows' meanings and by the
  host's `lookup`. Safe: the spec's own outcome, and nothing runs on. -/
  | unimplemented (opcode : Byte) (pc : Word)
  /-- Code 3: a bus access to 0xFEA0 to 0xFEFF under `UNMAPPED_POLICY = Fault` (R424). Raised by any fetch, read or write
  of a step and by the host's `read`, `write` and `lookup` (R441). Safe: the spec's own outcome, and nothing runs on. -/
  | unmappedAccess (addr : Word) (kind : AccessKind) (pc : Word)
  /-- Code 4: a host `set` with a value of the wrong width (R423). Raised by the host interface only, never by a step.
  Safe: the spec's own outcome; but the width recorded is the offered value's, in bits (DESIGN CHOICE, unsafe: log entry 18). -/
  | invalidOperandWidth (register : RegName) (width : Nat)
  deriving DecidableEq, Repr

/-- Why an instruction has no meaning. No arm of `exec` answers one: every instruction has its meaning. -/
inductive Refusal where
  /-- Would be raised by the arm of an instruction that is not modelled. Safe: the machine stops by name. -/
  | notModelled (mnemonic : String)
  deriving DecidableEq, Repr

/-- RUN (R45). -/
inductive Run where
  | running
  /-- `Faulted(code, info)`. -/
  | faulted (f : Fault)
  deriving DecidableEq, Repr

/-- The state record (R30). -/
structure State where
  /-- The accumulator (R31). -/
  a : Byte
  b : Byte
  c : Byte
  d : Byte
  e : Byte
  h : Byte
  l : Byte
  /-- Z, bit 7 of F (R32); F's low nibble is no storage (DESIGN CHOICE, safe: log entry 14). -/
  flagZ : Bool
  /-- N, bit 6 of F (R32). -/
  flagN : Bool
  /-- H, bit 5 of F (R32). -/
  flagH : Bool
  /-- C, bit 4 of F (R32). -/
  flagC : Bool
  /-- The stack pointer (R35). -/
  sp : Word
  /-- The program counter (R40). -/
  pc : Word
  /-- IME, the interrupt-master-enable flag (R42). -/
  ime : Bool
  /-- IME_NEXT, the delayed-enable latch (R43). -/
  imeNext : Bool
  /-- CYCLES, with no maximum width (R44). -/
  cycles : Nat
  /-- The plain storage of the memory map (R71), in the canonical form `Memory.wf` (DESIGN CHOICE, safe: log
  entry 13). -/
  mem : List Host.Cell
  /-- The IE cell at 0xFFFF, one bit (R77). -/
  ie : Bool
  /-- RUN (R45). -/
  run : Run
  /-- The parameters (R8). No step and no host call writes them (DESIGN CHOICE, safe: log entry 1). -/
  cfg : Config
  deriving DecidableEq, Repr

/-- The state at construction (R47, R460): all registers and memory zero, RUN running, the parameters at their defaults
(log entries 1 and 6). -/
def State.reset : State where
  a := 0x00
  b := 0x00
  c := 0x00
  d := 0x00
  e := 0x00
  h := 0x00
  l := 0x00
  flagZ := false
  flagN := false
  flagH := false
  flagC := false
  sp := 0x0000
  pc := 0x0000
  ime := false
  imeNext := false
  cycles := 0
  mem := []
  ie := false
  run := .running
  cfg := Config.standard

end Sys2Proof.Machine
end

