-- ==== Sys2Proof/Machine/Memory.lean ====
section
/-! DEFINITION. The memory bus (20_memory.md): the storage as a sorted list of bytes, the address translator (R72), the
storage a bus address reaches under the parameters (R75 to R77), and the bus primitives (R78 to R81). -/

namespace Sys2Proof.Machine

/-! ### Storage -/

/-- The plain storage of the map: (address, byte) pairs. An unlisted address holds 0x00, its reset value (R47). -/
abbrev Memory := List Host.Cell

/-- Addresses rise strictly from `lo` on, and no listed byte is 0x00. -/
def Memory.sortedFrom : Nat → Memory → Bool
  | _, [] => true
  | lo, (a, v) :: m => decide (lo ≤ a) && v != 0#8 && Memory.sortedFrom (a + 1) m

/-- The canonical form: equal memories are equal lists. -/
def Memory.wf (m : Memory) : Bool := Memory.sortedFrom 0 m

/-- The byte at a storage address. -/
def Memory.read : Memory → Nat → Byte
  | [], _ => 0#8
  | (b, v) :: m, a => if b = a then v else Memory.read m a

/-- Store a byte, keeping the canonical form: storing 0x00 removes the entry. -/
def Memory.write : Memory → Nat → Byte → Memory
  | [], a, v => if v = 0#8 then [] else [(a, v)]
  | (b, w) :: m, a, v =>
    if a < b then (if v = 0#8 then (b, w) :: m else (a, v) :: (b, w) :: m)
    else if a = b then (if v = 0#8 then m else (a, v) :: m)
    else (b, w) :: Memory.write m a v

/-! ### The address translator -/

/-- The regions of the map (R71), the gap at 0xFEA0 included. -/
inductive Region where
  | rom0 | rom1 | vram | eram | wram0 | wram1 | echo | oam | unmapped | io | hram | ie
  deriving DecidableEq, Repr

/-- The first address of a region (R71). -/
def Region.base : Region → Nat
  | .rom0 => 0x0000
  | .rom1 => 0x4000
  | .vram => 0x8000
  | .eram => 0xA000
  | .wram0 => 0xC000
  | .wram1 => 0xD000
  | .echo => 0xE000
  | .oam => 0xFE00
  | .unmapped => 0xFEA0
  | .io => 0xFF00
  | .hram => 0xFF80
  | .ie => 0xFFFF

/-- The size of a region in bytes (R71). -/
def Region.size : Region → Nat
  | .rom0 => 0x4000
  | .rom1 => 0x4000
  | .vram => 0x2000
  | .eram => 0x2000
  | .wram0 => 0x1000
  | .wram1 => 0x1000
  | .echo => 7680
  | .oam => 160
  | .unmapped => 96
  | .io => 128
  | .hram => 127
  | .ie => 1

/-- The region of an address (R72). -/
def regionOf (a : Word) : Region :=
  let n := a.toNat
  if n ≤ 0x3FFF then .rom0
  else if n ≤ 0x7FFF then .rom1
  else if n ≤ 0x9FFF then .vram
  else if n ≤ 0xBFFF then .eram
  else if n ≤ 0xCFFF then .wram0
  else if n ≤ 0xDFFF then .wram1
  else if n ≤ 0xFDFF then .echo
  else if n ≤ 0xFE9F then .oam
  else if n ≤ 0xFEFF then .unmapped
  else if n ≤ 0xFF7F then .io
  else if n ≤ 0xFFFE then .hram
  else .ie

/-- `Translate(a)` (R72): the region of an address and the offset within it. -/
def translate (a : Word) : Region × Nat := (regionOf a, a.toNat - (regionOf a).base)

/-! ### What a bus address reaches -/

/-- The storage behind a bus address. -/
inductive Slot where
  /-- A byte of plain storage, by its storage address. -/
  | plain (key : Nat)
  /-- The one-bit IE cell (R77). -/
  | ie
  /-- Nothing: the access faults (R76). -/
  | unmapped
  deriving DecidableEq, Repr

/-- The storage an address reaches: echo RAM is work RAM under `ECHO_MIRROR` (R75), the gap is storage or nothing by
`UNMAPPED_POLICY` (R76), 0xFFFF is the IE cell (R77), and the rest is plain (R73, R74). -/
def slotOf (cfg : Config) (a : Word) : Slot :=
  match translate a with
  | (.echo, o) => if cfg.echoMirror then .plain (Region.base .wram0 + o) else .plain (Region.base .echo + o)
  | (.unmapped, o) =>
    match cfg.unmappedPolicy with
    | .fault => .unmapped
    | .storage => .plain (Region.base .unmapped + o)
  | (.ie, _) => .ie
  | (r, o) => .plain (r.base + o)

/-- The byte an address reads as, or `none` where the access faults. Reading changes nothing (R85). -/
def peek8 (a : Word) (s : State) : Option Byte :=
  match slotOf s.cfg a with
  | .plain k => some (Memory.read s.mem k)
  | .ie => some (if s.ie then 0x01 else 0x00)
  | .unmapped => none

/-- The state after a byte is stored, or `none` where the access faults. -/
def poke8 (a : Word) (v : Byte) (s : State) : Option State :=
  match slotOf s.cfg a with
  | .plain k => some { s with mem := Memory.write s.mem k v }
  | .ie => some { s with ie := v != 0#8 }
  | .unmapped => none

/-- Bytes laid down from an address on, each through the bus; a byte at an address that faults is left out. -/
def storeBytes (a : Word) : List Byte → State → State
  | [], s => s
  | v :: vs, s => storeBytes (a + 1) vs ((poke8 a v s).getD s)

/-- A storage address some bus address reaches under the parameters. -/
def isStorage (cfg : Config) (k : Nat) : Bool :=
  decide (k < 65536) && slotOf cfg (BitVec.ofNat 16 k) == .plain k

/-! ### Bus primitives -/

/-- `BusRead8(a)` (R78); `pc` is still the instruction's own (R424). -/
def busRead8 (a : Word) (s : State) : Except Fault Byte :=
  match peek8 a s with
  | some v => .ok v
  | none => .error (.unmappedAccess a .read s.pc)

/-- `BusWrite8(a, v)` (R79). -/
def busWrite8 (a : Word) (v : Byte) (s : State) : Except Fault State :=
  match poke8 a v s with
  | some t => .ok t
  | none => .error (.unmappedAccess a .write s.pc)

/-- `MemRead(a, 2)` (R80): the byte at a, read first, is the low byte; a + 1 wraps. -/
def memRead16 (a : Word) (s : State) : Except Fault Word :=
  match busRead8 a s with
  | .error x => .error x
  | .ok lo =>
    match busRead8 (a + 1) s with
    | .error x => .error x
    | .ok hi => .ok (join hi lo)

/-- `MemWrite(a, 2, v)` (R81): the low byte at a first, then the high byte at a + 1, which wraps. -/
def memWrite16 (a : Word) (v : Word) (s : State) : Except Fault State :=
  match busWrite8 a (lo8 v) s with
  | .error x => .error x
  | .ok t => busWrite8 (a + 1) (hi8 v) t

end Sys2Proof.Machine
end

