-- ==== Sys2Proof/Machine/Ops.lean ====
section
/-! DEFINITION. The named operations on the state: registers and pair views (10_state.md §2, §3), the program counter (§4),
CHARGE (R44), raising a fault (60_exceptions.md R420, R421), the shape of an instruction (30_encoding.md R150), and the
stack (42_loads16_stack.md R240, R241). -/

namespace Sys2Proof.Machine

open Host

/-! ### Registers -/

/-- `x[r]` for an 8-bit register (R31). -/
def State.getReg (s : State) : Reg8 → Byte
  | .a => s.a
  | .b => s.b
  | .c => s.c
  | .d => s.d
  | .e => s.e
  | .h => s.h
  | .l => s.l

/-- `x[r] <- v` for an 8-bit register (R31). -/
def State.setReg (s : State) (r : Reg8) (v : Byte) : State :=
  match r with
  | .a => { s with a := v }
  | .b => { s with b := v }
  | .c => { s with c := v }
  | .d => { s with d := v }
  | .e => { s with e := v }
  | .h => { s with h := v }
  | .l => { s with l := v }

/-- F as a byte (R32): Z, N, H, C in bits 7 to 4, and 0 below. -/
def State.fByte (s : State) : Byte :=
  (BitVec.ofBool s.flagZ ++ BitVec.ofBool s.flagN ++ BitVec.ofBool s.flagH ++ BitVec.ofBool s.flagC ++ 0#4 : BitVec 8)

/-- The byte write of F (R33): bits 3 to 0 are discarded. -/
def State.setFByte (s : State) (v : Byte) : State :=
  { s with flagZ := v.getLsbD 7, flagN := v.getLsbD 6, flagH := v.getLsbD 5, flagC := v.getLsbD 4 }

/-- Write all four flags. -/
def State.setFlags (s : State) (z n h c : Bool) : State :=
  { s with flagZ := z, flagN := n, flagH := h, flagC := c }

/-- Write Z, N and H and leave C. -/
def State.setZNH (s : State) (z n h : Bool) : State :=
  { s with flagZ := z, flagN := n, flagH := h }

/-- Write N, H and C and leave Z. -/
def State.setNHC (s : State) (n h c : Bool) : State :=
  { s with flagN := n, flagH := h, flagC := c }

/-! ### Pairs and 16-bit registers -/

/-- `x[BC]` (R36). -/
def State.bc (s : State) : Word := join s.b s.c

/-- `x[DE]` (R36). -/
def State.de (s : State) : Word := join s.d s.e

/-- `x[HL]` (R36). -/
def State.hl (s : State) : Word := join s.h s.l

/-- `x[AF]` (R36): the low nibble is 0. -/
def State.af (s : State) : Word := join s.a s.fByte

/-- `x[BC] <- v` (R37). -/
def State.setBC (s : State) (v : Word) : State := { s with b := hi8 v, c := lo8 v }

/-- `x[DE] <- v` (R37). -/
def State.setDE (s : State) (v : Word) : State := { s with d := hi8 v, e := lo8 v }

/-- `x[HL] <- v` (R37). -/
def State.setHL (s : State) (v : Word) : State := { s with h := hi8 v, l := lo8 v }

/-- `x[AF] <- v` (R37, R33). -/
def State.setAF (s : State) (v : Word) : State := { s.setFByte (lo8 v) with a := hi8 v }

/-- `x[SP] <- v` (R35). -/
def State.setSP (s : State) (v : Word) : State := { s with sp := v }

/-- `pc <- t` (R40). -/
def State.setPC (s : State) (t : Word) : State := { s with pc := t }

/-- The advance past an instruction of `len` bytes (R40), modulo 2^16 (R41). -/
def State.advance (s : State) (len : Word) : State := s.setPC (s.pc + len)

/-- `x[dd]` (R115). -/
def State.getPair (s : State) : Pair → Word
  | .bc => s.bc
  | .de => s.de
  | .hl => s.hl
  | .sp => s.sp

/-- `x[dd] <- v` (R115). -/
def State.setPair (s : State) (p : Pair) (v : Word) : State :=
  match p with
  | .bc => s.setBC v
  | .de => s.setDE v
  | .hl => s.setHL v
  | .sp => s.setSP v

/-- `x[qq]` (R116). -/
def State.getStackPair (s : State) : StackPair → Word
  | .bc => s.bc
  | .de => s.de
  | .hl => s.hl
  | .af => s.af

/-- `x[qq] <- v` (R116); for AF the flags are loaded too (R249). -/
def State.setStackPair (s : State) (p : StackPair) (v : Word) : State :=
  match p with
  | .bc => s.setBC v
  | .de => s.setDE v
  | .hl => s.setHL v
  | .af => s.setAF v

/-! ### The interrupt-enable latch and the cycle counter -/

/-- IME is written (R42). -/
def State.setIme (s : State) (v : Bool) : State := { s with ime := v }

/-- IME_NEXT is written (R43). -/
def State.setImeNext (s : State) (v : Bool) : State := { s with imeNext := v }

/-- One tick of `Charge` (R44): count, and promote a pending IME_NEXT into IME. -/
def State.tick (s : State) : State :=
  if s.imeNext then { s with cycles := s.cycles + 1, ime := true, imeNext := false }
  else { s with cycles := s.cycles + 1 }

/-- `Charge(n)` (R44): n ticks. -/
def State.charge : Nat → State → State
  | 0, s => s
  | n + 1, s => State.charge n s.tick

/-! ### Faults -/

/-- `raise Fault(code, info)` (R420): RUN becomes `Faulted`, and nothing else is written (R421). A state already Faulted
keeps its fault, because Faulted is absorbing and a fault cannot nest (R434) (DESIGN CHOICE, unsafe: log entry 3). -/
def State.raise (s : State) (f : Fault) : State :=
  match s.run with
  | .running => { s with run := .faulted f }
  | .faulted _ => s

/-- The number of a fault code (R425). -/
def Fault.code : Fault → Nat
  | .unusedOpcode .. => 1
  | .unimplemented .. => 2
  | .unmappedAccess .. => 3
  | .invalidOperandWidth .. => 4

/-- The end of a step whose stages began in `s` (R421): the state they made, or `s` itself with the fault raised: a
next state either way (DESIGN CHOICE, safe: log entry 2). -/
def settle (s : State) (r : Except Fault State) : Outcome State Fault Refusal :=
  match r with
  | .ok t => .next t
  | .error f => .next (s.raise f)

/-- CHARGE, then EXECUTE (R150): the cost is charged, then the rule's body runs; a fault of the body undoes both. -/
def instr (cost : Nat) (body : State → Except Fault State) (s : State) : Outcome State Fault Refusal :=
  settle s (body (s.charge cost))

/-! ### The stack -/

/-- `Push16(v)` (R240): SP drops before each byte, the high byte first. -/
def push16 (v : Word) (s : State) : Except Fault State :=
  match busWrite8 (s.sp - 1) (hi8 v) (s.setSP (s.sp - 1)) with
  | .error x => .error x
  | .ok t => busWrite8 (t.sp - 1) (lo8 v) (t.setSP (t.sp - 1))

/-- `Pop16()` (R241): the low byte first, SP rising after each; the value and the state with SP moved. -/
def pop16 (s : State) : Except Fault (Word × State) :=
  match busRead8 s.sp s with
  | .error x => .error x
  | .ok lo =>
    match busRead8 (s.sp + 1) (s.setSP (s.sp + 1)) with
    | .error x => .error x
    | .ok hi => .ok (join hi lo, s.setSP (s.sp + 1 + 1))

end Sys2Proof.Machine
end

