-- ==== Sys2Proof/Machine/Operands.lean ====
section
/-! DEFINITION. Operand forms: the `r` field (30_encoding.md R119) as decode resolves it (R133), conditions (40_alu_flags.md R171),
and the addresses the loads, restarts and relative jumps compute (41_loads8.md R211 to R214, 46_control.md R373, R381). -/

namespace Sys2Proof

/-- An 8-bit operand as decode resolves it (R119, R133): a register by its name, or the byte at an address. -/
inductive Place where
  | reg (r : Reg8)
  | mem (a : Word)
  deriving DecidableEq, Repr

/-- The operand an `r` field names (R119), with `(HL)` at the address `ea`. -/
def R8.place (ea : Word) : R8 → Place
  | .reg r => .reg r
  | .atHL => .mem ea

/-- The condition a conditional instruction tests (R117, R171). -/
def Instr.condition : Instr → Option Cond
  | .jrNZDisp _ | .retNZ | .jpNZImm16 _ | .callNZImm16 _ => some .nz
  | .jrZDisp _ | .retZ | .jpZImm16 _ | .callZImm16 _ => some .z
  | .jrNCDisp _ | .retNC | .jpNCImm16 _ | .callNCImm16 _ => some .nc
  | .jrCDisp _ | .retC | .jpCImm16 _ | .callCImm16 _ => some .c
  | _ => none

namespace Machine

open Host

/-- `GetR8(r)` (R119). -/
def getR8 (p : Place) (s : State) : Except Fault Byte :=
  match p with
  | .reg r => .ok (s.getReg r)
  | .mem a => busRead8 a s

/-- `SetR8(r, v)` (R119). -/
def setR8 (p : Place) (v : Byte) (s : State) : Except Fault State :=
  match p with
  | .reg r => .ok (s.setReg r v)
  | .mem a => busWrite8 a v s

/-- `Cond(cc)` (R171). -/
def State.cond (s : State) : Cond → Bool
  | .nz => !s.flagZ
  | .z => s.flagZ
  | .nc => !s.flagC
  | .c => s.flagC

/-- The high-page address 0xFF00 + n (R113, R211). -/
def highPage (n : Byte) : Word := 0xFF00 + zext16 n

/-- `RelTarget(pc, e)` (R373), by `JR_TARGET_BASE`. -/
def State.relTarget (s : State) (e : Byte) : Word :=
  match s.cfg.jrTargetBase with
  | .next => s.pc + 2 + sext16 e
  | .opcode => s.pc + sext16 e

/-- The restart vector t × 8 (R381). -/
def restartVector (t : Idx3) : Word := BitVec.ofNat 16 (t.toNat * 8)

/-! ### Conditional instructions -/

/-- A conditional instruction whose condition was `holds` at decode (R171): the condition fixes both the cost and the body
(R150, R482). -/
def instrIf (holds : Bool) (takenCost notTakenCost : Nat) (taken notTaken : State → Except Fault State) (s : State) :
    Outcome State Fault Refusal :=
  if holds then instr takenCost taken s else instr notTakenCost notTaken s

end Machine

end Sys2Proof
end

