-- ==== Sys2Proof/Machine/Alu16.lean ====
section
/-! DEFINITION. 16-bit arithmetic (44_alu16.md): the shared bodies, then one meaning per row. -/

namespace Sys2Proof.Machine

open Host

/-! ### Shared bodies -/

/-- `ADD HL,dd` (R310): Z is kept. -/
def addHL (p : Pair) (s : State) : Except Fault State :=
  let o := add16 s.hl (s.getPair p)
  .ok (((s.setHL o.r).setNHC false o.h o.c).advance 1)

/-- `INC dd` (R311): no flag is written. -/
def incPair (p : Pair) (s : State) : Except Fault State :=
  .ok ((s.setPair p (s.getPair p + 1)).advance 1)

/-- `DEC dd` (R312), the result of `Sub16` (R164): no flag is written. -/
def decPair (p : Pair) (s : State) : Except Fault State :=
  .ok ((s.setPair p (sub16 (s.getPair p) 1).r).advance 1)

/-! ### The rows -/

/-- 03: INC BC (R311). -/
def execIncBC (s : State) : Outcome State Fault Refusal :=
  instr 8 (incPair .bc) s

/-- 09: ADD HL,BC (R310). -/
def execAddHLBC (s : State) : Outcome State Fault Refusal :=
  instr 8 (addHL .bc) s

/-- 0B: DEC BC (R312). -/
def execDecBC (s : State) : Outcome State Fault Refusal :=
  instr 8 (decPair .bc) s

/-- 13: INC DE (R311). -/
def execIncDE (s : State) : Outcome State Fault Refusal :=
  instr 8 (incPair .de) s

/-- 19: ADD HL,DE (R310). -/
def execAddHLDE (s : State) : Outcome State Fault Refusal :=
  instr 8 (addHL .de) s

/-- 1B: DEC DE (R312). -/
def execDecDE (s : State) : Outcome State Fault Refusal :=
  instr 8 (decPair .de) s

/-- 23: INC HL (R311). -/
def execIncHL (s : State) : Outcome State Fault Refusal :=
  instr 8 (incPair .hl) s

/-- 29: ADD HL,HL (R310). -/
def execAddHLHL (s : State) : Outcome State Fault Refusal :=
  instr 8 (addHL .hl) s

/-- 2B: DEC HL (R312). -/
def execDecHL (s : State) : Outcome State Fault Refusal :=
  instr 8 (decPair .hl) s

/-- 33: INC SP (R311). -/
def execIncSP (s : State) : Outcome State Fault Refusal :=
  instr 8 (incPair .sp) s

/-- 39: ADD HL,SP (R310). -/
def execAddHLSP (s : State) : Outcome State Fault Refusal :=
  instr 8 (addHL .sp) s

/-- 3B: DEC SP (R312). -/
def execDecSP (s : State) : Outcome State Fault Refusal :=
  instr 8 (decPair .sp) s

/-- E8: ADD SP,e (R313). -/
def execAddSPDisp (s : State) : Outcome State Fault Refusal :=
  settle s (.error (.unimplemented 0xE8 s.pc))

end Sys2Proof.Machine
end

