-- ==== Sys2Proof/Machine/Alu8.lean ====
section
/-! DEFINITION. 8-bit arithmetic and logic (43_alu8.md): the shared bodies, then one meaning per row. -/

namespace Sys2Proof.Machine

open Host

/-! ### Shared bodies -/

/-- One ALU operation on A and `v` (R270 to R293): A, unless the operation is CP, and all four flags. -/
def aluApply (op : AluOp) (v : Byte) (s : State) : State :=
  match op with
  | .add => let o := add8 s.a v false; (s.setReg .a o.r).setFlags o.z false o.h o.c
  | .adc => let o := add8 s.a v s.flagC; (s.setReg .a o.r).setFlags o.z false o.h o.c
  | .sub => let o := sub8 s.a v false; (s.setReg .a o.r).setFlags o.z true o.h o.c
  | .sbc => let o := sub8 s.a v s.flagC; (s.setReg .a o.r).setFlags o.z true o.h o.c
  | .and => let r := and8 s.a v; (s.setReg .a r).setFlags (r == 0#8) false true false
  | .xor => let r := xor8 s.a v; (s.setReg .a r).setFlags (r == 0#8) false false false
  | .or => let r := or8 s.a v; (s.setReg .a r).setFlags (r == 0#8) false false false
  | .cp => let o := sub8 s.a v false; s.setFlags o.z true o.h o.c

/-- The register and `(HL)` forms of the ALU operations. -/
def aluR8 (op : AluOp) (src : Place) (s : State) : Except Fault State := do
  let v ← getR8 src s
  return (aluApply op v s).advance 1

/-- The immediate forms of the ALU operations. -/
def aluImm (op : AluOp) (n : Byte) (s : State) : Except Fault State :=
  .ok ((aluApply op n s).advance 2)

/-- `INC r` and `INC (HL)` (R294, R295): C is kept. -/
def incR8 (r : Place) (s : State) : Except Fault State := do
  let v ← getR8 r s
  let o := add8 v 1 false
  let t ← setR8 r o.r s
  return (t.setZNH o.z false o.h).advance 1

/-- `DEC r` and `DEC (HL)` (R296, R297): C is kept. -/
def decR8 (r : Place) (s : State) : Except Fault State := do
  let v ← getR8 r s
  let o := sub8 v 1 false
  let t ← setR8 r o.r s
  return (t.setZNH o.z true o.h).advance 1

/-- `DAA` (R298): N is kept. -/
def daaBody (s : State) : Except Fault State :=
  let o := daaEval s.a s.flagN s.flagH s.flagC
  .ok (((s.setReg .a o.1).setFlags (o.1 == 0#8) s.flagN false o.2).advance 1)

/-- `CPL` (R299): Z and C are kept. -/
def cplBody (s : State) : Except Fault State :=
  .ok (((s.setReg .a (not8 s.a)).setZNH s.flagZ true true).advance 1)

/-- `SCF` (R300): Z is kept. -/
def scfBody (s : State) : Except Fault State :=
  .ok ((s.setNHC false false true).advance 1)

/-- `CCF` (R301): Z is kept. -/
def ccfBody (s : State) : Except Fault State :=
  .ok ((s.setNHC false false (!s.flagC)).advance 1)

/-! ### The rows -/

/-- 04: INC B (R294). -/
def execIncB (s : State) : Outcome State Fault Refusal :=
  instr 4 (incR8 (.reg .b)) s

/-- 05: DEC B (R296). -/
def execDecB (s : State) : Outcome State Fault Refusal :=
  instr 4 (decR8 (.reg .b)) s

/-- 0C: INC C (R294). -/
def execIncC (s : State) : Outcome State Fault Refusal :=
  instr 4 (incR8 (.reg .c)) s

/-- 0D: DEC C (R296). -/
def execDecC (s : State) : Outcome State Fault Refusal :=
  instr 4 (decR8 (.reg .c)) s

/-- 14: INC D (R294). -/
def execIncD (s : State) : Outcome State Fault Refusal :=
  instr 4 (incR8 (.reg .d)) s

/-- 15: DEC D (R296). -/
def execDecD (s : State) : Outcome State Fault Refusal :=
  instr 4 (decR8 (.reg .d)) s

/-- 1C: INC E (R294). -/
def execIncE (s : State) : Outcome State Fault Refusal :=
  instr 4 (incR8 (.reg .e)) s

/-- 1D: DEC E (R296). -/
def execDecE (s : State) : Outcome State Fault Refusal :=
  instr 4 (decR8 (.reg .e)) s

/-- 24: INC H (R294). -/
def execIncH (s : State) : Outcome State Fault Refusal :=
  instr 4 (incR8 (.reg .h)) s

/-- 25: DEC H (R296). -/
def execDecH (s : State) : Outcome State Fault Refusal :=
  instr 4 (decR8 (.reg .h)) s

/-- 27: DAA (R298). -/
def execDaa (s : State) : Outcome State Fault Refusal :=
  instr 4 daaBody s

/-- 2C: INC L (R294). -/
def execIncL (s : State) : Outcome State Fault Refusal :=
  instr 4 (incR8 (.reg .l)) s

/-- 2D: DEC L (R296). -/
def execDecL (s : State) : Outcome State Fault Refusal :=
  instr 4 (decR8 (.reg .l)) s

/-- 2F: CPL (R299). -/
def execCpl (s : State) : Outcome State Fault Refusal :=
  instr 4 cplBody s

/-- 34: INC (HL) (R295), its address resolved. -/
def runIncAtHL (ea : Word) (s : State) : Outcome State Fault Refusal :=
  instr 12 (incR8 (.mem ea)) s

/-- 34: INC (HL) (R295). -/
def execIncAtHL (s : State) : Outcome State Fault Refusal :=
  runIncAtHL s.hl s

/-- 35: DEC (HL) (R297), its address resolved. -/
def runDecAtHL (ea : Word) (s : State) : Outcome State Fault Refusal :=
  instr 12 (decR8 (.mem ea)) s

/-- 35: DEC (HL) (R297). -/
def execDecAtHL (s : State) : Outcome State Fault Refusal :=
  runDecAtHL s.hl s

/-- 37: SCF (R300). -/
def execScf (s : State) : Outcome State Fault Refusal :=
  instr 4 scfBody s

/-- 3C: INC A (R294). -/
def execIncA (s : State) : Outcome State Fault Refusal :=
  instr 4 (incR8 (.reg .a)) s

/-- 3D: DEC A (R296). -/
def execDecA (s : State) : Outcome State Fault Refusal :=
  instr 4 (decR8 (.reg .a)) s

/-- 3F: CCF (R301). -/
def execCcf (s : State) : Outcome State Fault Refusal :=
  instr 4 ccfBody s

/-- 80: ADD A,B (R270). -/
def execAddAB (s : State) : Outcome State Fault Refusal :=
  instr 4 (aluR8 .add (.reg .b)) s

/-- 81: ADD A,C (R270). -/
def execAddAC (s : State) : Outcome State Fault Refusal :=
  instr 4 (aluR8 .add (.reg .c)) s

/-- 82: ADD A,D (R270). -/
def execAddAD (s : State) : Outcome State Fault Refusal :=
  instr 4 (aluR8 .add (.reg .d)) s

/-- 83: ADD A,E (R270). -/
def execAddAE (s : State) : Outcome State Fault Refusal :=
  instr 4 (aluR8 .add (.reg .e)) s

/-- 84: ADD A,H (R270). -/
def execAddAH (s : State) : Outcome State Fault Refusal :=
  instr 4 (aluR8 .add (.reg .h)) s

/-- 85: ADD A,L (R270). -/
def execAddAL (s : State) : Outcome State Fault Refusal :=
  instr 4 (aluR8 .add (.reg .l)) s

/-- 86: ADD A,(HL) (R271), its address resolved. -/
def runAddAAtHL (ea : Word) (s : State) : Outcome State Fault Refusal :=
  instr 8 (aluR8 .add (.mem ea)) s

/-- 86: ADD A,(HL) (R271). -/
def execAddAAtHL (s : State) : Outcome State Fault Refusal :=
  runAddAAtHL s.hl s

/-- 87: ADD A,A (R270). -/
def execAddAA (s : State) : Outcome State Fault Refusal :=
  instr 4 (aluR8 .add (.reg .a)) s

/-- 88: ADC A,B (R273). -/
def execAdcAB (s : State) : Outcome State Fault Refusal :=
  instr 4 (aluR8 .adc (.reg .b)) s

/-- 89: ADC A,C (R273). -/
def execAdcAC (s : State) : Outcome State Fault Refusal :=
  instr 4 (aluR8 .adc (.reg .c)) s

/-- 8A: ADC A,D (R273). -/
def execAdcAD (s : State) : Outcome State Fault Refusal :=
  instr 4 (aluR8 .adc (.reg .d)) s

/-- 8B: ADC A,E (R273). -/
def execAdcAE (s : State) : Outcome State Fault Refusal :=
  instr 4 (aluR8 .adc (.reg .e)) s

/-- 8C: ADC A,H (R273). -/
def execAdcAH (s : State) : Outcome State Fault Refusal :=
  instr 4 (aluR8 .adc (.reg .h)) s

/-- 8D: ADC A,L (R273). -/
def execAdcAL (s : State) : Outcome State Fault Refusal :=
  instr 4 (aluR8 .adc (.reg .l)) s

/-- 8E: ADC A,(HL) (R274), its address resolved. -/
def runAdcAAtHL (ea : Word) (s : State) : Outcome State Fault Refusal :=
  instr 8 (aluR8 .adc (.mem ea)) s

/-- 8E: ADC A,(HL) (R274). -/
def execAdcAAtHL (s : State) : Outcome State Fault Refusal :=
  runAdcAAtHL s.hl s

/-- 8F: ADC A,A (R273). -/
def execAdcAA (s : State) : Outcome State Fault Refusal :=
  instr 4 (aluR8 .adc (.reg .a)) s

/-- 90: SUB B (R276). -/
def execSubB (s : State) : Outcome State Fault Refusal :=
  instr 4 (aluR8 .sub (.reg .b)) s

/-- 91: SUB C (R276). -/
def execSubC (s : State) : Outcome State Fault Refusal :=
  instr 4 (aluR8 .sub (.reg .c)) s

/-- 92: SUB D (R276). -/
def execSubD (s : State) : Outcome State Fault Refusal :=
  instr 4 (aluR8 .sub (.reg .d)) s

/-- 93: SUB E (R276). -/
def execSubE (s : State) : Outcome State Fault Refusal :=
  instr 4 (aluR8 .sub (.reg .e)) s

/-- 94: SUB H (R276). -/
def execSubH (s : State) : Outcome State Fault Refusal :=
  instr 4 (aluR8 .sub (.reg .h)) s

/-- 95: SUB L (R276). -/
def execSubL (s : State) : Outcome State Fault Refusal :=
  instr 4 (aluR8 .sub (.reg .l)) s

/-- 96: SUB (HL) (R277), its address resolved. -/
def runSubAtHL (ea : Word) (s : State) : Outcome State Fault Refusal :=
  instr 8 (aluR8 .sub (.mem ea)) s

/-- 96: SUB (HL) (R277). -/
def execSubAtHL (s : State) : Outcome State Fault Refusal :=
  runSubAtHL s.hl s

/-- 97: SUB A (R276). -/
def execSubA (s : State) : Outcome State Fault Refusal :=
  instr 4 (aluR8 .sub (.reg .a)) s

/-- 98: SBC A,B (R279). -/
def execSbcAB (s : State) : Outcome State Fault Refusal :=
  instr 4 (aluR8 .sbc (.reg .b)) s

/-- 99: SBC A,C (R279). -/
def execSbcAC (s : State) : Outcome State Fault Refusal :=
  instr 4 (aluR8 .sbc (.reg .c)) s

/-- 9A: SBC A,D (R279). -/
def execSbcAD (s : State) : Outcome State Fault Refusal :=
  instr 4 (aluR8 .sbc (.reg .d)) s

/-- 9B: SBC A,E (R279). -/
def execSbcAE (s : State) : Outcome State Fault Refusal :=
  instr 4 (aluR8 .sbc (.reg .e)) s

/-- 9C: SBC A,H (R279). -/
def execSbcAH (s : State) : Outcome State Fault Refusal :=
  instr 4 (aluR8 .sbc (.reg .h)) s

/-- 9D: SBC A,L (R279). -/
def execSbcAL (s : State) : Outcome State Fault Refusal :=
  instr 4 (aluR8 .sbc (.reg .l)) s

/-- 9E: SBC A,(HL) (R280), its address resolved. -/
def runSbcAAtHL (ea : Word) (s : State) : Outcome State Fault Refusal :=
  instr 8 (aluR8 .sbc (.mem ea)) s

/-- 9E: SBC A,(HL) (R280). -/
def execSbcAAtHL (s : State) : Outcome State Fault Refusal :=
  runSbcAAtHL s.hl s

/-- 9F: SBC A,A (R279). -/
def execSbcAA (s : State) : Outcome State Fault Refusal :=
  instr 4 (aluR8 .sbc (.reg .a)) s

/-- A0: AND B (R282). -/
def execAndB (s : State) : Outcome State Fault Refusal :=
  instr 4 (aluR8 .and (.reg .b)) s

/-- A1: AND C (R282). -/
def execAndC (s : State) : Outcome State Fault Refusal :=
  instr 4 (aluR8 .and (.reg .c)) s

/-- A2: AND D (R282). -/
def execAndD (s : State) : Outcome State Fault Refusal :=
  instr 4 (aluR8 .and (.reg .d)) s

/-- A3: AND E (R282). -/
def execAndE (s : State) : Outcome State Fault Refusal :=
  instr 4 (aluR8 .and (.reg .e)) s

/-- A4: AND H (R282). -/
def execAndH (s : State) : Outcome State Fault Refusal :=
  instr 4 (aluR8 .and (.reg .h)) s

/-- A5: AND L (R282). -/
def execAndL (s : State) : Outcome State Fault Refusal :=
  instr 4 (aluR8 .and (.reg .l)) s

/-- A6: AND (HL) (R283), its address resolved. -/
def runAndAtHL (ea : Word) (s : State) : Outcome State Fault Refusal :=
  instr 8 (aluR8 .and (.mem ea)) s

/-- A6: AND (HL) (R283). -/
def execAndAtHL (s : State) : Outcome State Fault Refusal :=
  runAndAtHL s.hl s

/-- A7: AND A (R282). -/
def execAndA (s : State) : Outcome State Fault Refusal :=
  instr 4 (aluR8 .and (.reg .a)) s

/-- A8: XOR B (R285). -/
def execXorB (s : State) : Outcome State Fault Refusal :=
  instr 4 (aluR8 .xor (.reg .b)) s

/-- A9: XOR C (R285). -/
def execXorC (s : State) : Outcome State Fault Refusal :=
  instr 4 (aluR8 .xor (.reg .c)) s

/-- AA: XOR D (R285). -/
def execXorD (s : State) : Outcome State Fault Refusal :=
  instr 4 (aluR8 .xor (.reg .d)) s

/-- AB: XOR E (R285). -/
def execXorE (s : State) : Outcome State Fault Refusal :=
  instr 4 (aluR8 .xor (.reg .e)) s

/-- AC: XOR H (R285). -/
def execXorH (s : State) : Outcome State Fault Refusal :=
  instr 4 (aluR8 .xor (.reg .h)) s

/-- AD: XOR L (R285). -/
def execXorL (s : State) : Outcome State Fault Refusal :=
  instr 4 (aluR8 .xor (.reg .l)) s

/-- AE: XOR (HL) (R286), its address resolved. -/
def runXorAtHL (ea : Word) (s : State) : Outcome State Fault Refusal :=
  instr 8 (aluR8 .xor (.mem ea)) s

/-- AE: XOR (HL) (R286). -/
def execXorAtHL (s : State) : Outcome State Fault Refusal :=
  runXorAtHL s.hl s

/-- AF: XOR A (R285). -/
def execXorA (s : State) : Outcome State Fault Refusal :=
  instr 4 (aluR8 .xor (.reg .a)) s

/-- B0: OR B (R288). -/
def execOrB (s : State) : Outcome State Fault Refusal :=
  instr 4 (aluR8 .or (.reg .b)) s

/-- B1: OR C (R288). -/
def execOrC (s : State) : Outcome State Fault Refusal :=
  instr 4 (aluR8 .or (.reg .c)) s

/-- B2: OR D (R288). -/
def execOrD (s : State) : Outcome State Fault Refusal :=
  instr 4 (aluR8 .or (.reg .d)) s

/-- B3: OR E (R288). -/
def execOrE (s : State) : Outcome State Fault Refusal :=
  instr 4 (aluR8 .or (.reg .e)) s

/-- B4: OR H (R288). -/
def execOrH (s : State) : Outcome State Fault Refusal :=
  instr 4 (aluR8 .or (.reg .h)) s

/-- B5: OR L (R288). -/
def execOrL (s : State) : Outcome State Fault Refusal :=
  instr 4 (aluR8 .or (.reg .l)) s

/-- B6: OR (HL) (R289), its address resolved. -/
def runOrAtHL (ea : Word) (s : State) : Outcome State Fault Refusal :=
  instr 8 (aluR8 .or (.mem ea)) s

/-- B6: OR (HL) (R289). -/
def execOrAtHL (s : State) : Outcome State Fault Refusal :=
  runOrAtHL s.hl s

/-- B7: OR A (R288). -/
def execOrA (s : State) : Outcome State Fault Refusal :=
  instr 4 (aluR8 .or (.reg .a)) s

/-- B8: CP B (R291). -/
def execCpB (s : State) : Outcome State Fault Refusal :=
  instr 4 (aluR8 .cp (.reg .b)) s

/-- B9: CP C (R291). -/
def execCpC (s : State) : Outcome State Fault Refusal :=
  instr 4 (aluR8 .cp (.reg .c)) s

/-- BA: CP D (R291). -/
def execCpD (s : State) : Outcome State Fault Refusal :=
  instr 4 (aluR8 .cp (.reg .d)) s

/-- BB: CP E (R291). -/
def execCpE (s : State) : Outcome State Fault Refusal :=
  instr 4 (aluR8 .cp (.reg .e)) s

/-- BC: CP H (R291). -/
def execCpH (s : State) : Outcome State Fault Refusal :=
  instr 4 (aluR8 .cp (.reg .h)) s

/-- BD: CP L (R291). -/
def execCpL (s : State) : Outcome State Fault Refusal :=
  instr 4 (aluR8 .cp (.reg .l)) s

/-- BE: CP (HL) (R292), its address resolved. -/
def runCpAtHL (ea : Word) (s : State) : Outcome State Fault Refusal :=
  instr 8 (aluR8 .cp (.mem ea)) s

/-- BE: CP (HL) (R292). -/
def execCpAtHL (s : State) : Outcome State Fault Refusal :=
  runCpAtHL s.hl s

/-- BF: CP A (R291). -/
def execCpA (s : State) : Outcome State Fault Refusal :=
  instr 4 (aluR8 .cp (.reg .a)) s

/-- C6: ADD A,n (R272). -/
def execAddAImm (n : Byte) (s : State) : Outcome State Fault Refusal :=
  instr 8 (aluImm .add n) s

/-- CE: ADC A,n (R275). -/
def execAdcAImm (n : Byte) (s : State) : Outcome State Fault Refusal :=
  instr 8 (aluImm .adc n) s

/-- D6: SUB n (R278). -/
def execSubImm (n : Byte) (s : State) : Outcome State Fault Refusal :=
  instr 8 (aluImm .sub n) s

/-- DE: SBC A,n (R281). -/
def execSbcAImm (n : Byte) (s : State) : Outcome State Fault Refusal :=
  instr 8 (aluImm .sbc n) s

/-- E6: AND n (R284). -/
def execAndImm (n : Byte) (s : State) : Outcome State Fault Refusal :=
  instr 8 (aluImm .and n) s

/-- EE: XOR n (R287). -/
def execXorImm (n : Byte) (s : State) : Outcome State Fault Refusal :=
  instr 8 (aluImm .xor n) s

/-- F6: OR n (R290). -/
def execOrImm (n : Byte) (s : State) : Outcome State Fault Refusal :=
  instr 8 (aluImm .or n) s

/-- FE: CP n (R293). -/
def execCpImm (n : Byte) (s : State) : Outcome State Fault Refusal :=
  instr 8 (aluImm .cp n) s

end Sys2Proof.Machine
end

