-- ==== Sys2Proof/Machine/Bits.lean ====
section
/-! DEFINITION. BIT, RES and SET (45_rotate_shift_bit.md §3, §4): the shared bodies, then one meaning per row. -/

namespace Sys2Proof.Machine

open Host

/-! ### Shared bodies -/

/-- The mask of one bit, `1 << b`. -/
def bitMask (b : Idx3) : Byte := 1#8 <<< b.toNat

/-- `BIT b,r` and `BIT b,(HL)` (R350, R351): C is kept. -/
def bitR8 (b : Idx3) (r : Place) (s : State) : Except Fault State := do
  let v ← getR8 r s
  return (s.setZNH (!bitTest v b.toNat) false true).advance 2

/-- `RES b,r` and `RES b,(HL)` (R352, R353): no flag is written. -/
def resR8 (b : Idx3) (r : Place) (s : State) : Except Fault State := do
  let v ← getR8 r s
  let t ← setR8 r (v &&& ~~~bitMask b) s
  return t.advance 2

/-- `SET b,r` and `SET b,(HL)` (R354, R355): no flag is written. -/
def setBitR8 (b : Idx3) (r : Place) (s : State) : Except Fault State := do
  let v ← getR8 r s
  let t ← setR8 r (v ||| bitMask b) s
  return t.advance 2

/-! ### The rows -/

/-- CB 40: BIT 0,B (R350). -/
def execBit0B (s : State) : Outcome State Fault Refusal :=
  instr 8 (bitR8 .i0 (.reg .b)) s

/-- CB 41: BIT 0,C (R350). -/
def execBit0C (s : State) : Outcome State Fault Refusal :=
  instr 8 (bitR8 .i0 (.reg .c)) s

/-- CB 42: BIT 0,D (R350). -/
def execBit0D (s : State) : Outcome State Fault Refusal :=
  instr 8 (bitR8 .i0 (.reg .d)) s

/-- CB 43: BIT 0,E (R350). -/
def execBit0E (s : State) : Outcome State Fault Refusal :=
  instr 8 (bitR8 .i0 (.reg .e)) s

/-- CB 44: BIT 0,H (R350). -/
def execBit0H (s : State) : Outcome State Fault Refusal :=
  instr 8 (bitR8 .i0 (.reg .h)) s

/-- CB 45: BIT 0,L (R350). -/
def execBit0L (s : State) : Outcome State Fault Refusal :=
  instr 8 (bitR8 .i0 (.reg .l)) s

/-- CB 46: BIT 0,(HL) (R351), its address resolved. -/
def runBit0AtHL (ea : Word) (s : State) : Outcome State Fault Refusal :=
  instr 12 (bitR8 .i0 (.mem ea)) s

/-- CB 46: BIT 0,(HL) (R351). -/
def execBit0AtHL (s : State) : Outcome State Fault Refusal :=
  runBit0AtHL s.hl s

/-- CB 47: BIT 0,A (R350). -/
def execBit0A (s : State) : Outcome State Fault Refusal :=
  instr 8 (bitR8 .i0 (.reg .a)) s

/-- CB 48: BIT 1,B (R350). -/
def execBit1B (s : State) : Outcome State Fault Refusal :=
  instr 8 (bitR8 .i1 (.reg .b)) s

/-- CB 49: BIT 1,C (R350). -/
def execBit1C (s : State) : Outcome State Fault Refusal :=
  instr 8 (bitR8 .i1 (.reg .c)) s

/-- CB 4A: BIT 1,D (R350). -/
def execBit1D (s : State) : Outcome State Fault Refusal :=
  instr 8 (bitR8 .i1 (.reg .d)) s

/-- CB 4B: BIT 1,E (R350). -/
def execBit1E (s : State) : Outcome State Fault Refusal :=
  instr 8 (bitR8 .i1 (.reg .e)) s

/-- CB 4C: BIT 1,H (R350). -/
def execBit1H (s : State) : Outcome State Fault Refusal :=
  instr 8 (bitR8 .i1 (.reg .h)) s

/-- CB 4D: BIT 1,L (R350). -/
def execBit1L (s : State) : Outcome State Fault Refusal :=
  instr 8 (bitR8 .i1 (.reg .l)) s

/-- CB 4E: BIT 1,(HL) (R351), its address resolved. -/
def runBit1AtHL (ea : Word) (s : State) : Outcome State Fault Refusal :=
  instr 12 (bitR8 .i1 (.mem ea)) s

/-- CB 4E: BIT 1,(HL) (R351). -/
def execBit1AtHL (s : State) : Outcome State Fault Refusal :=
  runBit1AtHL s.hl s

/-- CB 4F: BIT 1,A (R350). -/
def execBit1A (s : State) : Outcome State Fault Refusal :=
  instr 8 (bitR8 .i1 (.reg .a)) s

/-- CB 50: BIT 2,B (R350). -/
def execBit2B (s : State) : Outcome State Fault Refusal :=
  instr 8 (bitR8 .i2 (.reg .b)) s

/-- CB 51: BIT 2,C (R350). -/
def execBit2C (s : State) : Outcome State Fault Refusal :=
  instr 8 (bitR8 .i2 (.reg .c)) s

/-- CB 52: BIT 2,D (R350). -/
def execBit2D (s : State) : Outcome State Fault Refusal :=
  instr 8 (bitR8 .i2 (.reg .d)) s

/-- CB 53: BIT 2,E (R350). -/
def execBit2E (s : State) : Outcome State Fault Refusal :=
  instr 8 (bitR8 .i2 (.reg .e)) s

/-- CB 54: BIT 2,H (R350). -/
def execBit2H (s : State) : Outcome State Fault Refusal :=
  instr 8 (bitR8 .i2 (.reg .h)) s

/-- CB 55: BIT 2,L (R350). -/
def execBit2L (s : State) : Outcome State Fault Refusal :=
  instr 8 (bitR8 .i2 (.reg .l)) s

/-- CB 56: BIT 2,(HL) (R351), its address resolved. -/
def runBit2AtHL (ea : Word) (s : State) : Outcome State Fault Refusal :=
  instr 12 (bitR8 .i2 (.mem ea)) s

/-- CB 56: BIT 2,(HL) (R351). -/
def execBit2AtHL (s : State) : Outcome State Fault Refusal :=
  runBit2AtHL s.hl s

/-- CB 57: BIT 2,A (R350). -/
def execBit2A (s : State) : Outcome State Fault Refusal :=
  instr 8 (bitR8 .i2 (.reg .a)) s

/-- CB 58: BIT 3,B (R350). -/
def execBit3B (s : State) : Outcome State Fault Refusal :=
  instr 8 (bitR8 .i3 (.reg .b)) s

/-- CB 59: BIT 3,C (R350). -/
def execBit3C (s : State) : Outcome State Fault Refusal :=
  instr 8 (bitR8 .i3 (.reg .c)) s

/-- CB 5A: BIT 3,D (R350). -/
def execBit3D (s : State) : Outcome State Fault Refusal :=
  instr 8 (bitR8 .i3 (.reg .d)) s

/-- CB 5B: BIT 3,E (R350). -/
def execBit3E (s : State) : Outcome State Fault Refusal :=
  instr 8 (bitR8 .i3 (.reg .e)) s

/-- CB 5C: BIT 3,H (R350). -/
def execBit3H (s : State) : Outcome State Fault Refusal :=
  instr 8 (bitR8 .i3 (.reg .h)) s

/-- CB 5D: BIT 3,L (R350). -/
def execBit3L (s : State) : Outcome State Fault Refusal :=
  instr 8 (bitR8 .i3 (.reg .l)) s

/-- CB 5E: BIT 3,(HL) (R351), its address resolved. -/
def runBit3AtHL (ea : Word) (s : State) : Outcome State Fault Refusal :=
  instr 12 (bitR8 .i3 (.mem ea)) s

/-- CB 5E: BIT 3,(HL) (R351). -/
def execBit3AtHL (s : State) : Outcome State Fault Refusal :=
  runBit3AtHL s.hl s

/-- CB 5F: BIT 3,A (R350). -/
def execBit3A (s : State) : Outcome State Fault Refusal :=
  instr 8 (bitR8 .i3 (.reg .a)) s

/-- CB 60: BIT 4,B (R350). -/
def execBit4B (s : State) : Outcome State Fault Refusal :=
  instr 8 (bitR8 .i4 (.reg .b)) s

/-- CB 61: BIT 4,C (R350). -/
def execBit4C (s : State) : Outcome State Fault Refusal :=
  instr 8 (bitR8 .i4 (.reg .c)) s

/-- CB 62: BIT 4,D (R350). -/
def execBit4D (s : State) : Outcome State Fault Refusal :=
  instr 8 (bitR8 .i4 (.reg .d)) s

/-- CB 63: BIT 4,E (R350). -/
def execBit4E (s : State) : Outcome State Fault Refusal :=
  instr 8 (bitR8 .i4 (.reg .e)) s

/-- CB 64: BIT 4,H (R350). -/
def execBit4H (s : State) : Outcome State Fault Refusal :=
  instr 8 (bitR8 .i4 (.reg .h)) s

/-- CB 65: BIT 4,L (R350). -/
def execBit4L (s : State) : Outcome State Fault Refusal :=
  instr 8 (bitR8 .i4 (.reg .l)) s

/-- CB 66: BIT 4,(HL) (R351), its address resolved. -/
def runBit4AtHL (ea : Word) (s : State) : Outcome State Fault Refusal :=
  instr 12 (bitR8 .i4 (.mem ea)) s

/-- CB 66: BIT 4,(HL) (R351). -/
def execBit4AtHL (s : State) : Outcome State Fault Refusal :=
  runBit4AtHL s.hl s

/-- CB 67: BIT 4,A (R350). -/
def execBit4A (s : State) : Outcome State Fault Refusal :=
  instr 8 (bitR8 .i4 (.reg .a)) s

/-- CB 68: BIT 5,B (R350). -/
def execBit5B (s : State) : Outcome State Fault Refusal :=
  instr 8 (bitR8 .i5 (.reg .b)) s

/-- CB 69: BIT 5,C (R350). -/
def execBit5C (s : State) : Outcome State Fault Refusal :=
  instr 8 (bitR8 .i5 (.reg .c)) s

/-- CB 6A: BIT 5,D (R350). -/
def execBit5D (s : State) : Outcome State Fault Refusal :=
  instr 8 (bitR8 .i5 (.reg .d)) s

/-- CB 6B: BIT 5,E (R350). -/
def execBit5E (s : State) : Outcome State Fault Refusal :=
  instr 8 (bitR8 .i5 (.reg .e)) s

/-- CB 6C: BIT 5,H (R350). -/
def execBit5H (s : State) : Outcome State Fault Refusal :=
  instr 8 (bitR8 .i5 (.reg .h)) s

/-- CB 6D: BIT 5,L (R350). -/
def execBit5L (s : State) : Outcome State Fault Refusal :=
  instr 8 (bitR8 .i5 (.reg .l)) s

/-- CB 6E: BIT 5,(HL) (R351), its address resolved. -/
def runBit5AtHL (ea : Word) (s : State) : Outcome State Fault Refusal :=
  instr 12 (bitR8 .i5 (.mem ea)) s

/-- CB 6E: BIT 5,(HL) (R351). -/
def execBit5AtHL (s : State) : Outcome State Fault Refusal :=
  runBit5AtHL s.hl s

/-- CB 6F: BIT 5,A (R350). -/
def execBit5A (s : State) : Outcome State Fault Refusal :=
  instr 8 (bitR8 .i5 (.reg .a)) s

/-- CB 70: BIT 6,B (R350). -/
def execBit6B (s : State) : Outcome State Fault Refusal :=
  instr 8 (bitR8 .i6 (.reg .b)) s

/-- CB 71: BIT 6,C (R350). -/
def execBit6C (s : State) : Outcome State Fault Refusal :=
  instr 8 (bitR8 .i6 (.reg .c)) s

/-- CB 72: BIT 6,D (R350). -/
def execBit6D (s : State) : Outcome State Fault Refusal :=
  instr 8 (bitR8 .i6 (.reg .d)) s

/-- CB 73: BIT 6,E (R350). -/
def execBit6E (s : State) : Outcome State Fault Refusal :=
  instr 8 (bitR8 .i6 (.reg .e)) s

/-- CB 74: BIT 6,H (R350). -/
def execBit6H (s : State) : Outcome State Fault Refusal :=
  instr 8 (bitR8 .i6 (.reg .h)) s

/-- CB 75: BIT 6,L (R350). -/
def execBit6L (s : State) : Outcome State Fault Refusal :=
  instr 8 (bitR8 .i6 (.reg .l)) s

/-- CB 76: BIT 6,(HL) (R351), its address resolved. -/
def runBit6AtHL (ea : Word) (s : State) : Outcome State Fault Refusal :=
  instr 12 (bitR8 .i6 (.mem ea)) s

/-- CB 76: BIT 6,(HL) (R351). -/
def execBit6AtHL (s : State) : Outcome State Fault Refusal :=
  runBit6AtHL s.hl s

/-- CB 77: BIT 6,A (R350). -/
def execBit6A (s : State) : Outcome State Fault Refusal :=
  instr 8 (bitR8 .i6 (.reg .a)) s

/-- CB 78: BIT 7,B (R350). -/
def execBit7B (s : State) : Outcome State Fault Refusal :=
  instr 8 (bitR8 .i7 (.reg .b)) s

/-- CB 79: BIT 7,C (R350). -/
def execBit7C (s : State) : Outcome State Fault Refusal :=
  instr 8 (bitR8 .i7 (.reg .c)) s

/-- CB 7A: BIT 7,D (R350). -/
def execBit7D (s : State) : Outcome State Fault Refusal :=
  instr 8 (bitR8 .i7 (.reg .d)) s

/-- CB 7B: BIT 7,E (R350). -/
def execBit7E (s : State) : Outcome State Fault Refusal :=
  instr 8 (bitR8 .i7 (.reg .e)) s

/-- CB 7C: BIT 7,H (R350). -/
def execBit7H (s : State) : Outcome State Fault Refusal :=
  instr 8 (bitR8 .i7 (.reg .h)) s

/-- CB 7D: BIT 7,L (R350). -/
def execBit7L (s : State) : Outcome State Fault Refusal :=
  instr 8 (bitR8 .i7 (.reg .l)) s

/-- CB 7E: BIT 7,(HL) (R351), its address resolved. -/
def runBit7AtHL (ea : Word) (s : State) : Outcome State Fault Refusal :=
  instr 12 (bitR8 .i7 (.mem ea)) s

/-- CB 7E: BIT 7,(HL) (R351). -/
def execBit7AtHL (s : State) : Outcome State Fault Refusal :=
  runBit7AtHL s.hl s

/-- CB 7F: BIT 7,A (R350). -/
def execBit7A (s : State) : Outcome State Fault Refusal :=
  instr 8 (bitR8 .i7 (.reg .a)) s

/-- CB 80: RES 0,B (R352). -/
def execRes0B (s : State) : Outcome State Fault Refusal :=
  instr 8 (resR8 .i0 (.reg .b)) s

/-- CB 81: RES 0,C (R352). -/
def execRes0C (s : State) : Outcome State Fault Refusal :=
  instr 8 (resR8 .i0 (.reg .c)) s

/-- CB 82: RES 0,D (R352). -/
def execRes0D (s : State) : Outcome State Fault Refusal :=
  instr 8 (resR8 .i0 (.reg .d)) s

/-- CB 83: RES 0,E (R352). -/
def execRes0E (s : State) : Outcome State Fault Refusal :=
  instr 8 (resR8 .i0 (.reg .e)) s

/-- CB 84: RES 0,H (R352). -/
def execRes0H (s : State) : Outcome State Fault Refusal :=
  instr 8 (resR8 .i0 (.reg .h)) s

/-- CB 85: RES 0,L (R352). -/
def execRes0L (s : State) : Outcome State Fault Refusal :=
  instr 8 (resR8 .i0 (.reg .l)) s

/-- CB 86: RES 0,(HL) (R353), its address resolved. -/
def runRes0AtHL (ea : Word) (s : State) : Outcome State Fault Refusal :=
  instr 16 (resR8 .i0 (.mem ea)) s

/-- CB 86: RES 0,(HL) (R353). -/
def execRes0AtHL (s : State) : Outcome State Fault Refusal :=
  runRes0AtHL s.hl s

/-- CB 87: RES 0,A (R352). -/
def execRes0A (s : State) : Outcome State Fault Refusal :=
  instr 8 (resR8 .i0 (.reg .a)) s

/-- CB 88: RES 1,B (R352). -/
def execRes1B (s : State) : Outcome State Fault Refusal :=
  instr 8 (resR8 .i1 (.reg .b)) s

/-- CB 89: RES 1,C (R352). -/
def execRes1C (s : State) : Outcome State Fault Refusal :=
  instr 8 (resR8 .i1 (.reg .c)) s

/-- CB 8A: RES 1,D (R352). -/
def execRes1D (s : State) : Outcome State Fault Refusal :=
  instr 8 (resR8 .i1 (.reg .d)) s

/-- CB 8B: RES 1,E (R352). -/
def execRes1E (s : State) : Outcome State Fault Refusal :=
  instr 8 (resR8 .i1 (.reg .e)) s

/-- CB 8C: RES 1,H (R352). -/
def execRes1H (s : State) : Outcome State Fault Refusal :=
  instr 8 (resR8 .i1 (.reg .h)) s

/-- CB 8D: RES 1,L (R352). -/
def execRes1L (s : State) : Outcome State Fault Refusal :=
  instr 8 (resR8 .i1 (.reg .l)) s

/-- CB 8E: RES 1,(HL) (R353), its address resolved. -/
def runRes1AtHL (ea : Word) (s : State) : Outcome State Fault Refusal :=
  instr 16 (resR8 .i1 (.mem ea)) s

/-- CB 8E: RES 1,(HL) (R353). -/
def execRes1AtHL (s : State) : Outcome State Fault Refusal :=
  runRes1AtHL s.hl s

/-- CB 8F: RES 1,A (R352). -/
def execRes1A (s : State) : Outcome State Fault Refusal :=
  instr 8 (resR8 .i1 (.reg .a)) s

/-- CB 90: RES 2,B (R352). -/
def execRes2B (s : State) : Outcome State Fault Refusal :=
  instr 8 (resR8 .i2 (.reg .b)) s

/-- CB 91: RES 2,C (R352). -/
def execRes2C (s : State) : Outcome State Fault Refusal :=
  instr 8 (resR8 .i2 (.reg .c)) s

/-- CB 92: RES 2,D (R352). -/
def execRes2D (s : State) : Outcome State Fault Refusal :=
  instr 8 (resR8 .i2 (.reg .d)) s

/-- CB 93: RES 2,E (R352). -/
def execRes2E (s : State) : Outcome State Fault Refusal :=
  instr 8 (resR8 .i2 (.reg .e)) s

/-- CB 94: RES 2,H (R352). -/
def execRes2H (s : State) : Outcome State Fault Refusal :=
  instr 8 (resR8 .i2 (.reg .h)) s

/-- CB 95: RES 2,L (R352). -/
def execRes2L (s : State) : Outcome State Fault Refusal :=
  instr 8 (resR8 .i2 (.reg .l)) s

/-- CB 96: RES 2,(HL) (R353), its address resolved. -/
def runRes2AtHL (ea : Word) (s : State) : Outcome State Fault Refusal :=
  instr 16 (resR8 .i2 (.mem ea)) s

/-- CB 96: RES 2,(HL) (R353). -/
def execRes2AtHL (s : State) : Outcome State Fault Refusal :=
  runRes2AtHL s.hl s

/-- CB 97: RES 2,A (R352). -/
def execRes2A (s : State) : Outcome State Fault Refusal :=
  instr 8 (resR8 .i2 (.reg .a)) s

/-- CB 98: RES 3,B (R352). -/
def execRes3B (s : State) : Outcome State Fault Refusal :=
  instr 8 (resR8 .i3 (.reg .b)) s

/-- CB 99: RES 3,C (R352). -/
def execRes3C (s : State) : Outcome State Fault Refusal :=
  instr 8 (resR8 .i3 (.reg .c)) s

/-- CB 9A: RES 3,D (R352). -/
def execRes3D (s : State) : Outcome State Fault Refusal :=
  instr 8 (resR8 .i3 (.reg .d)) s

/-- CB 9B: RES 3,E (R352). -/
def execRes3E (s : State) : Outcome State Fault Refusal :=
  instr 8 (resR8 .i3 (.reg .e)) s

/-- CB 9C: RES 3,H (R352). -/
def execRes3H (s : State) : Outcome State Fault Refusal :=
  instr 8 (resR8 .i3 (.reg .h)) s

/-- CB 9D: RES 3,L (R352). -/
def execRes3L (s : State) : Outcome State Fault Refusal :=
  instr 8 (resR8 .i3 (.reg .l)) s

/-- CB 9E: RES 3,(HL) (R353), its address resolved. -/
def runRes3AtHL (ea : Word) (s : State) : Outcome State Fault Refusal :=
  instr 16 (resR8 .i3 (.mem ea)) s

/-- CB 9E: RES 3,(HL) (R353). -/
def execRes3AtHL (s : State) : Outcome State Fault Refusal :=
  runRes3AtHL s.hl s

/-- CB 9F: RES 3,A (R352). -/
def execRes3A (s : State) : Outcome State Fault Refusal :=
  instr 8 (resR8 .i3 (.reg .a)) s

/-- CB A0: RES 4,B (R352). -/
def execRes4B (s : State) : Outcome State Fault Refusal :=
  instr 8 (resR8 .i4 (.reg .b)) s

/-- CB A1: RES 4,C (R352). -/
def execRes4C (s : State) : Outcome State Fault Refusal :=
  instr 8 (resR8 .i4 (.reg .c)) s

/-- CB A2: RES 4,D (R352). -/
def execRes4D (s : State) : Outcome State Fault Refusal :=
  instr 8 (resR8 .i4 (.reg .d)) s

/-- CB A3: RES 4,E (R352). -/
def execRes4E (s : State) : Outcome State Fault Refusal :=
  instr 8 (resR8 .i4 (.reg .e)) s

/-- CB A4: RES 4,H (R352). -/
def execRes4H (s : State) : Outcome State Fault Refusal :=
  instr 8 (resR8 .i4 (.reg .h)) s

/-- CB A5: RES 4,L (R352). -/
def execRes4L (s : State) : Outcome State Fault Refusal :=
  instr 8 (resR8 .i4 (.reg .l)) s

/-- CB A6: RES 4,(HL) (R353), its address resolved. -/
def runRes4AtHL (ea : Word) (s : State) : Outcome State Fault Refusal :=
  instr 16 (resR8 .i4 (.mem ea)) s

/-- CB A6: RES 4,(HL) (R353). -/
def execRes4AtHL (s : State) : Outcome State Fault Refusal :=
  runRes4AtHL s.hl s

/-- CB A7: RES 4,A (R352). -/
def execRes4A (s : State) : Outcome State Fault Refusal :=
  instr 8 (resR8 .i4 (.reg .a)) s

/-- CB A8: RES 5,B (R352). -/
def execRes5B (s : State) : Outcome State Fault Refusal :=
  instr 8 (resR8 .i5 (.reg .b)) s

/-- CB A9: RES 5,C (R352). -/
def execRes5C (s : State) : Outcome State Fault Refusal :=
  instr 8 (resR8 .i5 (.reg .c)) s

/-- CB AA: RES 5,D (R352). -/
def execRes5D (s : State) : Outcome State Fault Refusal :=
  instr 8 (resR8 .i5 (.reg .d)) s

/-- CB AB: RES 5,E (R352). -/
def execRes5E (s : State) : Outcome State Fault Refusal :=
  instr 8 (resR8 .i5 (.reg .e)) s

/-- CB AC: RES 5,H (R352). -/
def execRes5H (s : State) : Outcome State Fault Refusal :=
  instr 8 (resR8 .i5 (.reg .h)) s

/-- CB AD: RES 5,L (R352). -/
def execRes5L (s : State) : Outcome State Fault Refusal :=
  instr 8 (resR8 .i5 (.reg .l)) s

/-- CB AE: RES 5,(HL) (R353), its address resolved. -/
def runRes5AtHL (ea : Word) (s : State) : Outcome State Fault Refusal :=
  instr 16 (resR8 .i5 (.mem ea)) s

/-- CB AE: RES 5,(HL) (R353). -/
def execRes5AtHL (s : State) : Outcome State Fault Refusal :=
  runRes5AtHL s.hl s

/-- CB AF: RES 5,A (R352). -/
def execRes5A (s : State) : Outcome State Fault Refusal :=
  instr 8 (resR8 .i5 (.reg .a)) s

/-- CB B0: RES 6,B (R352). -/
def execRes6B (s : State) : Outcome State Fault Refusal :=
  instr 8 (resR8 .i6 (.reg .b)) s

/-- CB B1: RES 6,C (R352). -/
def execRes6C (s : State) : Outcome State Fault Refusal :=
  instr 8 (resR8 .i6 (.reg .c)) s

/-- CB B2: RES 6,D (R352). -/
def execRes6D (s : State) : Outcome State Fault Refusal :=
  instr 8 (resR8 .i6 (.reg .d)) s

/-- CB B3: RES 6,E (R352). -/
def execRes6E (s : State) : Outcome State Fault Refusal :=
  instr 8 (resR8 .i6 (.reg .e)) s

/-- CB B4: RES 6,H (R352). -/
def execRes6H (s : State) : Outcome State Fault Refusal :=
  instr 8 (resR8 .i6 (.reg .h)) s

/-- CB B5: RES 6,L (R352). -/
def execRes6L (s : State) : Outcome State Fault Refusal :=
  instr 8 (resR8 .i6 (.reg .l)) s

/-- CB B6: RES 6,(HL) (R353), its address resolved. -/
def runRes6AtHL (ea : Word) (s : State) : Outcome State Fault Refusal :=
  instr 16 (resR8 .i6 (.mem ea)) s

/-- CB B6: RES 6,(HL) (R353). -/
def execRes6AtHL (s : State) : Outcome State Fault Refusal :=
  runRes6AtHL s.hl s

/-- CB B7: RES 6,A (R352). -/
def execRes6A (s : State) : Outcome State Fault Refusal :=
  instr 8 (resR8 .i6 (.reg .a)) s

/-- CB B8: RES 7,B (R352). -/
def execRes7B (s : State) : Outcome State Fault Refusal :=
  instr 8 (resR8 .i7 (.reg .b)) s

/-- CB B9: RES 7,C (R352). -/
def execRes7C (s : State) : Outcome State Fault Refusal :=
  instr 8 (resR8 .i7 (.reg .c)) s

/-- CB BA: RES 7,D (R352). -/
def execRes7D (s : State) : Outcome State Fault Refusal :=
  instr 8 (resR8 .i7 (.reg .d)) s

/-- CB BB: RES 7,E (R352). -/
def execRes7E (s : State) : Outcome State Fault Refusal :=
  instr 8 (resR8 .i7 (.reg .e)) s

/-- CB BC: RES 7,H (R352). -/
def execRes7H (s : State) : Outcome State Fault Refusal :=
  instr 8 (resR8 .i7 (.reg .h)) s

/-- CB BD: RES 7,L (R352). -/
def execRes7L (s : State) : Outcome State Fault Refusal :=
  instr 8 (resR8 .i7 (.reg .l)) s

/-- CB BE: RES 7,(HL) (R353), its address resolved. -/
def runRes7AtHL (ea : Word) (s : State) : Outcome State Fault Refusal :=
  instr 16 (resR8 .i7 (.mem ea)) s

/-- CB BE: RES 7,(HL) (R353). -/
def execRes7AtHL (s : State) : Outcome State Fault Refusal :=
  runRes7AtHL s.hl s

/-- CB BF: RES 7,A (R352). -/
def execRes7A (s : State) : Outcome State Fault Refusal :=
  instr 8 (resR8 .i7 (.reg .a)) s

/-- CB C0: SET 0,B (R354). -/
def execSet0B (s : State) : Outcome State Fault Refusal :=
  instr 8 (setBitR8 .i0 (.reg .b)) s

/-- CB C1: SET 0,C (R354). -/
def execSet0C (s : State) : Outcome State Fault Refusal :=
  instr 8 (setBitR8 .i0 (.reg .c)) s

/-- CB C2: SET 0,D (R354). -/
def execSet0D (s : State) : Outcome State Fault Refusal :=
  instr 8 (setBitR8 .i0 (.reg .d)) s

/-- CB C3: SET 0,E (R354). -/
def execSet0E (s : State) : Outcome State Fault Refusal :=
  instr 8 (setBitR8 .i0 (.reg .e)) s

/-- CB C4: SET 0,H (R354). -/
def execSet0H (s : State) : Outcome State Fault Refusal :=
  instr 8 (setBitR8 .i0 (.reg .h)) s

/-- CB C5: SET 0,L (R354). -/
def execSet0L (s : State) : Outcome State Fault Refusal :=
  instr 8 (setBitR8 .i0 (.reg .l)) s

/-- CB C6: SET 0,(HL) (R355), its address resolved. -/
def runSet0AtHL (ea : Word) (s : State) : Outcome State Fault Refusal :=
  instr 16 (setBitR8 .i0 (.mem ea)) s

/-- CB C6: SET 0,(HL) (R355). -/
def execSet0AtHL (s : State) : Outcome State Fault Refusal :=
  runSet0AtHL s.hl s

/-- CB C7: SET 0,A (R354). -/
def execSet0A (s : State) : Outcome State Fault Refusal :=
  instr 8 (setBitR8 .i0 (.reg .a)) s

/-- CB C8: SET 1,B (R354). -/
def execSet1B (s : State) : Outcome State Fault Refusal :=
  instr 8 (setBitR8 .i1 (.reg .b)) s

/-- CB C9: SET 1,C (R354). -/
def execSet1C (s : State) : Outcome State Fault Refusal :=
  instr 8 (setBitR8 .i1 (.reg .c)) s

/-- CB CA: SET 1,D (R354). -/
def execSet1D (s : State) : Outcome State Fault Refusal :=
  instr 8 (setBitR8 .i1 (.reg .d)) s

/-- CB CB: SET 1,E (R354). -/
def execSet1E (s : State) : Outcome State Fault Refusal :=
  instr 8 (setBitR8 .i1 (.reg .e)) s

/-- CB CC: SET 1,H (R354). -/
def execSet1H (s : State) : Outcome State Fault Refusal :=
  instr 8 (setBitR8 .i1 (.reg .h)) s

/-- CB CD: SET 1,L (R354). -/
def execSet1L (s : State) : Outcome State Fault Refusal :=
  instr 8 (setBitR8 .i1 (.reg .l)) s

/-- CB CE: SET 1,(HL) (R355), its address resolved. -/
def runSet1AtHL (ea : Word) (s : State) : Outcome State Fault Refusal :=
  instr 16 (setBitR8 .i1 (.mem ea)) s

/-- CB CE: SET 1,(HL) (R355). -/
def execSet1AtHL (s : State) : Outcome State Fault Refusal :=
  runSet1AtHL s.hl s

/-- CB CF: SET 1,A (R354). -/
def execSet1A (s : State) : Outcome State Fault Refusal :=
  instr 8 (setBitR8 .i1 (.reg .a)) s

/-- CB D0: SET 2,B (R354). -/
def execSet2B (s : State) : Outcome State Fault Refusal :=
  instr 8 (setBitR8 .i2 (.reg .b)) s

/-- CB D1: SET 2,C (R354). -/
def execSet2C (s : State) : Outcome State Fault Refusal :=
  instr 8 (setBitR8 .i2 (.reg .c)) s

/-- CB D2: SET 2,D (R354). -/
def execSet2D (s : State) : Outcome State Fault Refusal :=
  instr 8 (setBitR8 .i2 (.reg .d)) s

/-- CB D3: SET 2,E (R354). -/
def execSet2E (s : State) : Outcome State Fault Refusal :=
  instr 8 (setBitR8 .i2 (.reg .e)) s

/-- CB D4: SET 2,H (R354). -/
def execSet2H (s : State) : Outcome State Fault Refusal :=
  instr 8 (setBitR8 .i2 (.reg .h)) s

/-- CB D5: SET 2,L (R354). -/
def execSet2L (s : State) : Outcome State Fault Refusal :=
  instr 8 (setBitR8 .i2 (.reg .l)) s

/-- CB D6: SET 2,(HL) (R355), its address resolved. -/
def runSet2AtHL (ea : Word) (s : State) : Outcome State Fault Refusal :=
  instr 16 (setBitR8 .i2 (.mem ea)) s

/-- CB D6: SET 2,(HL) (R355). -/
def execSet2AtHL (s : State) : Outcome State Fault Refusal :=
  runSet2AtHL s.hl s

/-- CB D7: SET 2,A (R354). -/
def execSet2A (s : State) : Outcome State Fault Refusal :=
  instr 8 (setBitR8 .i2 (.reg .a)) s

/-- CB D8: SET 3,B (R354). -/
def execSet3B (s : State) : Outcome State Fault Refusal :=
  instr 8 (setBitR8 .i3 (.reg .b)) s

/-- CB D9: SET 3,C (R354). -/
def execSet3C (s : State) : Outcome State Fault Refusal :=
  instr 8 (setBitR8 .i3 (.reg .c)) s

/-- CB DA: SET 3,D (R354). -/
def execSet3D (s : State) : Outcome State Fault Refusal :=
  instr 8 (setBitR8 .i3 (.reg .d)) s

/-- CB DB: SET 3,E (R354). -/
def execSet3E (s : State) : Outcome State Fault Refusal :=
  instr 8 (setBitR8 .i3 (.reg .e)) s

/-- CB DC: SET 3,H (R354). -/
def execSet3H (s : State) : Outcome State Fault Refusal :=
  instr 8 (setBitR8 .i3 (.reg .h)) s

/-- CB DD: SET 3,L (R354). -/
def execSet3L (s : State) : Outcome State Fault Refusal :=
  instr 8 (setBitR8 .i3 (.reg .l)) s

/-- CB DE: SET 3,(HL) (R355), its address resolved. -/
def runSet3AtHL (ea : Word) (s : State) : Outcome State Fault Refusal :=
  instr 16 (setBitR8 .i3 (.mem ea)) s

/-- CB DE: SET 3,(HL) (R355). -/
def execSet3AtHL (s : State) : Outcome State Fault Refusal :=
  runSet3AtHL s.hl s

/-- CB DF: SET 3,A (R354). -/
def execSet3A (s : State) : Outcome State Fault Refusal :=
  instr 8 (setBitR8 .i3 (.reg .a)) s

/-- CB E0: SET 4,B (R354). -/
def execSet4B (s : State) : Outcome State Fault Refusal :=
  instr 8 (setBitR8 .i4 (.reg .b)) s

/-- CB E1: SET 4,C (R354). -/
def execSet4C (s : State) : Outcome State Fault Refusal :=
  instr 8 (setBitR8 .i4 (.reg .c)) s

/-- CB E2: SET 4,D (R354). -/
def execSet4D (s : State) : Outcome State Fault Refusal :=
  instr 8 (setBitR8 .i4 (.reg .d)) s

/-- CB E3: SET 4,E (R354). -/
def execSet4E (s : State) : Outcome State Fault Refusal :=
  instr 8 (setBitR8 .i4 (.reg .e)) s

/-- CB E4: SET 4,H (R354). -/
def execSet4H (s : State) : Outcome State Fault Refusal :=
  instr 8 (setBitR8 .i4 (.reg .h)) s

/-- CB E5: SET 4,L (R354). -/
def execSet4L (s : State) : Outcome State Fault Refusal :=
  instr 8 (setBitR8 .i4 (.reg .l)) s

/-- CB E6: SET 4,(HL) (R355), its address resolved. -/
def runSet4AtHL (ea : Word) (s : State) : Outcome State Fault Refusal :=
  instr 16 (setBitR8 .i4 (.mem ea)) s

/-- CB E6: SET 4,(HL) (R355). -/
def execSet4AtHL (s : State) : Outcome State Fault Refusal :=
  runSet4AtHL s.hl s

/-- CB E7: SET 4,A (R354). -/
def execSet4A (s : State) : Outcome State Fault Refusal :=
  instr 8 (setBitR8 .i4 (.reg .a)) s

/-- CB E8: SET 5,B (R354). -/
def execSet5B (s : State) : Outcome State Fault Refusal :=
  instr 8 (setBitR8 .i5 (.reg .b)) s

/-- CB E9: SET 5,C (R354). -/
def execSet5C (s : State) : Outcome State Fault Refusal :=
  instr 8 (setBitR8 .i5 (.reg .c)) s

/-- CB EA: SET 5,D (R354). -/
def execSet5D (s : State) : Outcome State Fault Refusal :=
  instr 8 (setBitR8 .i5 (.reg .d)) s

/-- CB EB: SET 5,E (R354). -/
def execSet5E (s : State) : Outcome State Fault Refusal :=
  instr 8 (setBitR8 .i5 (.reg .e)) s

/-- CB EC: SET 5,H (R354). -/
def execSet5H (s : State) : Outcome State Fault Refusal :=
  instr 8 (setBitR8 .i5 (.reg .h)) s

/-- CB ED: SET 5,L (R354). -/
def execSet5L (s : State) : Outcome State Fault Refusal :=
  instr 8 (setBitR8 .i5 (.reg .l)) s

/-- CB EE: SET 5,(HL) (R355), its address resolved. -/
def runSet5AtHL (ea : Word) (s : State) : Outcome State Fault Refusal :=
  instr 16 (setBitR8 .i5 (.mem ea)) s

/-- CB EE: SET 5,(HL) (R355). -/
def execSet5AtHL (s : State) : Outcome State Fault Refusal :=
  runSet5AtHL s.hl s

/-- CB EF: SET 5,A (R354). -/
def execSet5A (s : State) : Outcome State Fault Refusal :=
  instr 8 (setBitR8 .i5 (.reg .a)) s

/-- CB F0: SET 6,B (R354). -/
def execSet6B (s : State) : Outcome State Fault Refusal :=
  instr 8 (setBitR8 .i6 (.reg .b)) s

/-- CB F1: SET 6,C (R354). -/
def execSet6C (s : State) : Outcome State Fault Refusal :=
  instr 8 (setBitR8 .i6 (.reg .c)) s

/-- CB F2: SET 6,D (R354). -/
def execSet6D (s : State) : Outcome State Fault Refusal :=
  instr 8 (setBitR8 .i6 (.reg .d)) s

/-- CB F3: SET 6,E (R354). -/
def execSet6E (s : State) : Outcome State Fault Refusal :=
  instr 8 (setBitR8 .i6 (.reg .e)) s

/-- CB F4: SET 6,H (R354). -/
def execSet6H (s : State) : Outcome State Fault Refusal :=
  instr 8 (setBitR8 .i6 (.reg .h)) s

/-- CB F5: SET 6,L (R354). -/
def execSet6L (s : State) : Outcome State Fault Refusal :=
  instr 8 (setBitR8 .i6 (.reg .l)) s

/-- CB F6: SET 6,(HL) (R355), its address resolved. -/
def runSet6AtHL (ea : Word) (s : State) : Outcome State Fault Refusal :=
  instr 16 (setBitR8 .i6 (.mem ea)) s

/-- CB F6: SET 6,(HL) (R355). -/
def execSet6AtHL (s : State) : Outcome State Fault Refusal :=
  runSet6AtHL s.hl s

/-- CB F7: SET 6,A (R354). -/
def execSet6A (s : State) : Outcome State Fault Refusal :=
  instr 8 (setBitR8 .i6 (.reg .a)) s

/-- CB F8: SET 7,B (R354). -/
def execSet7B (s : State) : Outcome State Fault Refusal :=
  instr 8 (setBitR8 .i7 (.reg .b)) s

/-- CB F9: SET 7,C (R354). -/
def execSet7C (s : State) : Outcome State Fault Refusal :=
  instr 8 (setBitR8 .i7 (.reg .c)) s

/-- CB FA: SET 7,D (R354). -/
def execSet7D (s : State) : Outcome State Fault Refusal :=
  instr 8 (setBitR8 .i7 (.reg .d)) s

/-- CB FB: SET 7,E (R354). -/
def execSet7E (s : State) : Outcome State Fault Refusal :=
  instr 8 (setBitR8 .i7 (.reg .e)) s

/-- CB FC: SET 7,H (R354). -/
def execSet7H (s : State) : Outcome State Fault Refusal :=
  instr 8 (setBitR8 .i7 (.reg .h)) s

/-- CB FD: SET 7,L (R354). -/
def execSet7L (s : State) : Outcome State Fault Refusal :=
  instr 8 (setBitR8 .i7 (.reg .l)) s

/-- CB FE: SET 7,(HL) (R355), its address resolved. -/
def runSet7AtHL (ea : Word) (s : State) : Outcome State Fault Refusal :=
  instr 16 (setBitR8 .i7 (.mem ea)) s

/-- CB FE: SET 7,(HL) (R355). -/
def execSet7AtHL (s : State) : Outcome State Fault Refusal :=
  runSet7AtHL s.hl s

/-- CB FF: SET 7,A (R354). -/
def execSet7A (s : State) : Outcome State Fault Refusal :=
  instr 8 (setBitR8 .i7 (.reg .a)) s

end Sys2Proof.Machine
end

