-- ==== Sys2Proof/Machine/Control.lean ====
section
/-! DEFINITION. Jumps, calls, returns and restarts (46_control.md): the shared bodies, then one meaning per row. -/

namespace Sys2Proof.Machine

open Host

/-! ### Shared bodies -/

/-- The body of a conditional instruction that is not taken: only pc is written. -/
def skip (len : Word) (s : State) : Except Fault State :=
  .ok (s.advance len)

/-- `JP nn` (R370). -/
def jumpTo (nn : Word) (s : State) : Except Fault State :=
  .ok (s.setPC nn)

/-- `JP (HL)` (R372): the target is HL itself. -/
def jumpHL (s : State) : Except Fault State :=
  .ok (s.setPC s.hl)

/-- `JR e` (R374). -/
def jumpRel (e : Byte) (s : State) : Except Fault State :=
  .ok (s.setPC (s.relTarget e))

/-- `CALL nn` (R376): the pushed value is the address of the next instruction. -/
def callTo (nn : Word) (s : State) : Except Fault State := do
  let t ← push16 (s.pc + 3) s
  return t.setPC nn

/-- `RET` (R378). -/
def returnBody (s : State) : Except Fault State := do
  let (v, t) ← pop16 s
  return t.setPC v

/-- `RETI` (R380): IME is set at once; IME_NEXT is not written. -/
def retiBody (s : State) : Except Fault State := do
  let (v, t) ← pop16 s
  return (t.setPC v).setIme true

/-- `RST t` (R381). -/
def restart (t : Idx3) (s : State) : Except Fault State := do
  let u ← push16 (s.pc + 1) s
  return u.setPC (restartVector t)

/-! ### The rows -/

/-- 18: JR e (R374). -/
def execJrDisp (e : Byte) (s : State) : Outcome State Fault Refusal :=
  instr 12 (jumpRel e) s

/-- 20: JR NZ,e (R375), its condition resolved. -/
def runJrNZDisp (holds : Bool) (e : Byte) (s : State) : Outcome State Fault Refusal :=
  instrIf holds 12 8 (jumpRel e) (skip 2) s

/-- 20: JR NZ,e (R375). -/
def execJrNZDisp (e : Byte) (s : State) : Outcome State Fault Refusal :=
  runJrNZDisp (s.cond .nz) e s

/-- 28: JR Z,e (R375), its condition resolved. -/
def runJrZDisp (holds : Bool) (e : Byte) (s : State) : Outcome State Fault Refusal :=
  instrIf holds 12 8 (jumpRel e) (skip 2) s

/-- 28: JR Z,e (R375). -/
def execJrZDisp (e : Byte) (s : State) : Outcome State Fault Refusal :=
  runJrZDisp (s.cond .z) e s

/-- 30: JR NC,e (R375), its condition resolved. -/
def runJrNCDisp (holds : Bool) (e : Byte) (s : State) : Outcome State Fault Refusal :=
  instrIf holds 12 8 (jumpRel e) (skip 2) s

/-- 30: JR NC,e (R375). -/
def execJrNCDisp (e : Byte) (s : State) : Outcome State Fault Refusal :=
  runJrNCDisp (s.cond .nc) e s

/-- 38: JR C,e (R375), its condition resolved. -/
def runJrCDisp (holds : Bool) (e : Byte) (s : State) : Outcome State Fault Refusal :=
  instrIf holds 12 8 (jumpRel e) (skip 2) s

/-- 38: JR C,e (R375). -/
def execJrCDisp (e : Byte) (s : State) : Outcome State Fault Refusal :=
  runJrCDisp (s.cond .c) e s

/-- C0: RET NZ (R379), its condition resolved. -/
def runRetNZ (holds : Bool) (s : State) : Outcome State Fault Refusal :=
  instrIf holds 20 8 returnBody (skip 1) s

/-- C0: RET NZ (R379). -/
def execRetNZ (s : State) : Outcome State Fault Refusal :=
  runRetNZ (s.cond .nz) s

/-- C2: JP NZ,nn (R371), its condition resolved. -/
def runJpNZImm16 (holds : Bool) (nn : Word) (s : State) : Outcome State Fault Refusal :=
  instrIf holds 16 12 (jumpTo nn) (skip 3) s

/-- C2: JP NZ,nn (R371). -/
def execJpNZImm16 (nn : Word) (s : State) : Outcome State Fault Refusal :=
  runJpNZImm16 (s.cond .nz) nn s

/-- C3: JP nn (R370). -/
def execJpImm16 (nn : Word) (s : State) : Outcome State Fault Refusal :=
  instr 16 (jumpTo nn) s

/-- C4: CALL NZ,nn (R377), its condition resolved. -/
def runCallNZImm16 (holds : Bool) (nn : Word) (s : State) : Outcome State Fault Refusal :=
  instrIf holds 24 12 (callTo nn) (skip 3) s

/-- C4: CALL NZ,nn (R377). -/
def execCallNZImm16 (nn : Word) (s : State) : Outcome State Fault Refusal :=
  runCallNZImm16 (s.cond .nz) nn s

/-- C7: RST 0x00 (R381). -/
def execRst00 (s : State) : Outcome State Fault Refusal :=
  instr 16 (restart .i0) s

/-- C8: RET Z (R379), its condition resolved. -/
def runRetZ (holds : Bool) (s : State) : Outcome State Fault Refusal :=
  instrIf holds 20 8 returnBody (skip 1) s

/-- C8: RET Z (R379). -/
def execRetZ (s : State) : Outcome State Fault Refusal :=
  runRetZ (s.cond .z) s

/-- C9: RET (R378). -/
def execRet (s : State) : Outcome State Fault Refusal :=
  instr 16 returnBody s

/-- CA: JP Z,nn (R371), its condition resolved. -/
def runJpZImm16 (holds : Bool) (nn : Word) (s : State) : Outcome State Fault Refusal :=
  instrIf holds 16 12 (jumpTo nn) (skip 3) s

/-- CA: JP Z,nn (R371). -/
def execJpZImm16 (nn : Word) (s : State) : Outcome State Fault Refusal :=
  runJpZImm16 (s.cond .z) nn s

/-- CC: CALL Z,nn (R377), its condition resolved. -/
def runCallZImm16 (holds : Bool) (nn : Word) (s : State) : Outcome State Fault Refusal :=
  instrIf holds 24 12 (callTo nn) (skip 3) s

/-- CC: CALL Z,nn (R377). -/
def execCallZImm16 (nn : Word) (s : State) : Outcome State Fault Refusal :=
  runCallZImm16 (s.cond .z) nn s

/-- CD: CALL nn (R376). -/
def execCallImm16 (nn : Word) (s : State) : Outcome State Fault Refusal :=
  instr 24 (callTo nn) s

/-- CF: RST 0x08 (R381). -/
def execRst08 (s : State) : Outcome State Fault Refusal :=
  instr 16 (restart .i1) s

/-- D0: RET NC (R379), its condition resolved. -/
def runRetNC (holds : Bool) (s : State) : Outcome State Fault Refusal :=
  instrIf holds 20 8 returnBody (skip 1) s

/-- D0: RET NC (R379). -/
def execRetNC (s : State) : Outcome State Fault Refusal :=
  runRetNC (s.cond .nc) s

/-- D2: JP NC,nn (R371), its condition resolved. -/
def runJpNCImm16 (holds : Bool) (nn : Word) (s : State) : Outcome State Fault Refusal :=
  instrIf holds 16 12 (jumpTo nn) (skip 3) s

/-- D2: JP NC,nn (R371). -/
def execJpNCImm16 (nn : Word) (s : State) : Outcome State Fault Refusal :=
  runJpNCImm16 (s.cond .nc) nn s

/-- D4: CALL NC,nn (R377), its condition resolved. -/
def runCallNCImm16 (holds : Bool) (nn : Word) (s : State) : Outcome State Fault Refusal :=
  instrIf holds 24 12 (callTo nn) (skip 3) s

/-- D4: CALL NC,nn (R377). -/
def execCallNCImm16 (nn : Word) (s : State) : Outcome State Fault Refusal :=
  runCallNCImm16 (s.cond .nc) nn s

/-- D7: RST 0x10 (R381). -/
def execRst10 (s : State) : Outcome State Fault Refusal :=
  instr 16 (restart .i2) s

/-- D8: RET C (R379), its condition resolved. -/
def runRetC (holds : Bool) (s : State) : Outcome State Fault Refusal :=
  instrIf holds 20 8 returnBody (skip 1) s

/-- D8: RET C (R379). -/
def execRetC (s : State) : Outcome State Fault Refusal :=
  runRetC (s.cond .c) s

/-- D9: RETI (R380). -/
def execReti (s : State) : Outcome State Fault Refusal :=
  instr 16 retiBody s

/-- DA: JP C,nn (R371), its condition resolved. -/
def runJpCImm16 (holds : Bool) (nn : Word) (s : State) : Outcome State Fault Refusal :=
  instrIf holds 16 12 (jumpTo nn) (skip 3) s

/-- DA: JP C,nn (R371). -/
def execJpCImm16 (nn : Word) (s : State) : Outcome State Fault Refusal :=
  runJpCImm16 (s.cond .c) nn s

/-- DC: CALL C,nn (R377), its condition resolved. -/
def runCallCImm16 (holds : Bool) (nn : Word) (s : State) : Outcome State Fault Refusal :=
  instrIf holds 24 12 (callTo nn) (skip 3) s

/-- DC: CALL C,nn (R377). -/
def execCallCImm16 (nn : Word) (s : State) : Outcome State Fault Refusal :=
  runCallCImm16 (s.cond .c) nn s

/-- DF: RST 0x18 (R381). -/
def execRst18 (s : State) : Outcome State Fault Refusal :=
  instr 16 (restart .i3) s

/-- E7: RST 0x20 (R381). -/
def execRst20 (s : State) : Outcome State Fault Refusal :=
  instr 16 (restart .i4) s

/-- E9: JP (HL) (R372). -/
def execJpAtHL (s : State) : Outcome State Fault Refusal :=
  instr 4 jumpHL s

/-- EF: RST 0x28 (R381). -/
def execRst28 (s : State) : Outcome State Fault Refusal :=
  instr 16 (restart .i5) s

/-- F7: RST 0x30 (R381). -/
def execRst30 (s : State) : Outcome State Fault Refusal :=
  instr 16 (restart .i6) s

/-- FF: RST 0x38 (R381). -/
def execRst38 (s : State) : Outcome State Fault Refusal :=
  instr 16 (restart .i7) s

end Sys2Proof.Machine
end

