-- ==== Sys2Proof/Machine/Rotate.lean ====
section
/-! DEFINITION. Rotates, shifts and SWAP (45_rotate_shift_bit.md §1, §2): the shared bodies, then one meaning per row. -/

namespace Sys2Proof.Machine

open Host

/-! ### Shared bodies -/

/-- RLCA, RRCA, RLA, RRA (R330 to R333): Z is cleared whatever the result. -/
def rotA (op : RotOp) (s : State) : Except Fault State :=
  let o := rotEval op s.a s.flagC
  .ok (((s.setReg .a o.1).setFlags false false false o.2).advance 1)

/-- The escape table's rotates, shifts and SWAP on `r` or `(HL)` (R334 to R349). -/
def rotR8 (op : RotOp) (r : Place) (s : State) : Except Fault State := do
  let v ← getR8 r s
  let o := rotEval op v s.flagC
  let t ← setR8 r o.1 s
  return (t.setFlags (o.1 == 0#8) false false o.2).advance 2

/-! ### The rows -/

/-- 07: RLCA (R330). -/
def execRlca (s : State) : Outcome State Fault Refusal :=
  instr 4 (rotA .rlc) s

/-- 0F: RRCA (R331). -/
def execRrca (s : State) : Outcome State Fault Refusal :=
  instr 4 (rotA .rrc) s

/-- 17: RLA (R332). -/
def execRla (s : State) : Outcome State Fault Refusal :=
  instr 4 (rotA .rl) s

/-- 1F: RRA (R333). -/
def execRra (s : State) : Outcome State Fault Refusal :=
  instr 4 (rotA .rr) s

/-- CB 00: RLC B (R334). -/
def execRlcB (s : State) : Outcome State Fault Refusal :=
  instr 8 (rotR8 .rlc (.reg .b)) s

/-- CB 01: RLC C (R334). -/
def execRlcC (s : State) : Outcome State Fault Refusal :=
  instr 8 (rotR8 .rlc (.reg .c)) s

/-- CB 02: RLC D (R334). -/
def execRlcD (s : State) : Outcome State Fault Refusal :=
  instr 8 (rotR8 .rlc (.reg .d)) s

/-- CB 03: RLC E (R334). -/
def execRlcE (s : State) : Outcome State Fault Refusal :=
  instr 8 (rotR8 .rlc (.reg .e)) s

/-- CB 04: RLC H (R334). -/
def execRlcH (s : State) : Outcome State Fault Refusal :=
  instr 8 (rotR8 .rlc (.reg .h)) s

/-- CB 05: RLC L (R334). -/
def execRlcL (s : State) : Outcome State Fault Refusal :=
  instr 8 (rotR8 .rlc (.reg .l)) s

/-- CB 06: RLC (HL) (R335), its address resolved. -/
def runRlcAtHL (ea : Word) (s : State) : Outcome State Fault Refusal :=
  instr 16 (rotR8 .rlc (.mem ea)) s

/-- CB 06: RLC (HL) (R335). -/
def execRlcAtHL (s : State) : Outcome State Fault Refusal :=
  runRlcAtHL s.hl s

/-- CB 07: RLC A (R334). -/
def execRlcA (s : State) : Outcome State Fault Refusal :=
  instr 8 (rotR8 .rlc (.reg .a)) s

/-- CB 08: RRC B (R336). -/
def execRrcB (s : State) : Outcome State Fault Refusal :=
  instr 8 (rotR8 .rrc (.reg .b)) s

/-- CB 09: RRC C (R336). -/
def execRrcC (s : State) : Outcome State Fault Refusal :=
  instr 8 (rotR8 .rrc (.reg .c)) s

/-- CB 0A: RRC D (R336). -/
def execRrcD (s : State) : Outcome State Fault Refusal :=
  instr 8 (rotR8 .rrc (.reg .d)) s

/-- CB 0B: RRC E (R336). -/
def execRrcE (s : State) : Outcome State Fault Refusal :=
  instr 8 (rotR8 .rrc (.reg .e)) s

/-- CB 0C: RRC H (R336). -/
def execRrcH (s : State) : Outcome State Fault Refusal :=
  instr 8 (rotR8 .rrc (.reg .h)) s

/-- CB 0D: RRC L (R336). -/
def execRrcL (s : State) : Outcome State Fault Refusal :=
  instr 8 (rotR8 .rrc (.reg .l)) s

/-- CB 0E: RRC (HL) (R337), its address resolved. -/
def runRrcAtHL (ea : Word) (s : State) : Outcome State Fault Refusal :=
  instr 16 (rotR8 .rrc (.mem ea)) s

/-- CB 0E: RRC (HL) (R337). -/
def execRrcAtHL (s : State) : Outcome State Fault Refusal :=
  runRrcAtHL s.hl s

/-- CB 0F: RRC A (R336). -/
def execRrcA (s : State) : Outcome State Fault Refusal :=
  instr 8 (rotR8 .rrc (.reg .a)) s

/-- CB 10: RL B (R338). -/
def execRlB (s : State) : Outcome State Fault Refusal :=
  instr 8 (rotR8 .rl (.reg .b)) s

/-- CB 11: RL C (R338). -/
def execRlC (s : State) : Outcome State Fault Refusal :=
  instr 8 (rotR8 .rl (.reg .c)) s

/-- CB 12: RL D (R338). -/
def execRlD (s : State) : Outcome State Fault Refusal :=
  instr 8 (rotR8 .rl (.reg .d)) s

/-- CB 13: RL E (R338). -/
def execRlE (s : State) : Outcome State Fault Refusal :=
  instr 8 (rotR8 .rl (.reg .e)) s

/-- CB 14: RL H (R338). -/
def execRlH (s : State) : Outcome State Fault Refusal :=
  instr 8 (rotR8 .rl (.reg .h)) s

/-- CB 15: RL L (R338). -/
def execRlL (s : State) : Outcome State Fault Refusal :=
  instr 8 (rotR8 .rl (.reg .l)) s

/-- CB 16: RL (HL) (R339), its address resolved. -/
def runRlAtHL (ea : Word) (s : State) : Outcome State Fault Refusal :=
  instr 16 (rotR8 .rl (.mem ea)) s

/-- CB 16: RL (HL) (R339). -/
def execRlAtHL (s : State) : Outcome State Fault Refusal :=
  runRlAtHL s.hl s

/-- CB 17: RL A (R338). -/
def execRlA (s : State) : Outcome State Fault Refusal :=
  instr 8 (rotR8 .rl (.reg .a)) s

/-- CB 18: RR B (R340). -/
def execRrB (s : State) : Outcome State Fault Refusal :=
  instr 8 (rotR8 .rr (.reg .b)) s

/-- CB 19: RR C (R340). -/
def execRrC (s : State) : Outcome State Fault Refusal :=
  instr 8 (rotR8 .rr (.reg .c)) s

/-- CB 1A: RR D (R340). -/
def execRrD (s : State) : Outcome State Fault Refusal :=
  instr 8 (rotR8 .rr (.reg .d)) s

/-- CB 1B: RR E (R340). -/
def execRrE (s : State) : Outcome State Fault Refusal :=
  instr 8 (rotR8 .rr (.reg .e)) s

/-- CB 1C: RR H (R340). -/
def execRrH (s : State) : Outcome State Fault Refusal :=
  instr 8 (rotR8 .rr (.reg .h)) s

/-- CB 1D: RR L (R340). -/
def execRrL (s : State) : Outcome State Fault Refusal :=
  instr 8 (rotR8 .rr (.reg .l)) s

/-- CB 1E: RR (HL) (R341), its address resolved. -/
def runRrAtHL (ea : Word) (s : State) : Outcome State Fault Refusal :=
  instr 16 (rotR8 .rr (.mem ea)) s

/-- CB 1E: RR (HL) (R341). -/
def execRrAtHL (s : State) : Outcome State Fault Refusal :=
  runRrAtHL s.hl s

/-- CB 1F: RR A (R340). -/
def execRrA (s : State) : Outcome State Fault Refusal :=
  instr 8 (rotR8 .rr (.reg .a)) s

/-- CB 20: SLA B (R342). -/
def execSlaB (s : State) : Outcome State Fault Refusal :=
  instr 8 (rotR8 .sla (.reg .b)) s

/-- CB 21: SLA C (R342). -/
def execSlaC (s : State) : Outcome State Fault Refusal :=
  instr 8 (rotR8 .sla (.reg .c)) s

/-- CB 22: SLA D (R342). -/
def execSlaD (s : State) : Outcome State Fault Refusal :=
  instr 8 (rotR8 .sla (.reg .d)) s

/-- CB 23: SLA E (R342). -/
def execSlaE (s : State) : Outcome State Fault Refusal :=
  instr 8 (rotR8 .sla (.reg .e)) s

/-- CB 24: SLA H (R342). -/
def execSlaH (s : State) : Outcome State Fault Refusal :=
  instr 8 (rotR8 .sla (.reg .h)) s

/-- CB 25: SLA L (R342). -/
def execSlaL (s : State) : Outcome State Fault Refusal :=
  instr 8 (rotR8 .sla (.reg .l)) s

/-- CB 26: SLA (HL) (R343), its address resolved. -/
def runSlaAtHL (ea : Word) (s : State) : Outcome State Fault Refusal :=
  instr 16 (rotR8 .sla (.mem ea)) s

/-- CB 26: SLA (HL) (R343). -/
def execSlaAtHL (s : State) : Outcome State Fault Refusal :=
  runSlaAtHL s.hl s

/-- CB 27: SLA A (R342). -/
def execSlaA (s : State) : Outcome State Fault Refusal :=
  instr 8 (rotR8 .sla (.reg .a)) s

/-- CB 28: SRA B (R344). -/
def execSraB (s : State) : Outcome State Fault Refusal :=
  instr 8 (rotR8 .sra (.reg .b)) s

/-- CB 29: SRA C (R344). -/
def execSraC (s : State) : Outcome State Fault Refusal :=
  instr 8 (rotR8 .sra (.reg .c)) s

/-- CB 2A: SRA D (R344). -/
def execSraD (s : State) : Outcome State Fault Refusal :=
  instr 8 (rotR8 .sra (.reg .d)) s

/-- CB 2B: SRA E (R344). -/
def execSraE (s : State) : Outcome State Fault Refusal :=
  instr 8 (rotR8 .sra (.reg .e)) s

/-- CB 2C: SRA H (R344). -/
def execSraH (s : State) : Outcome State Fault Refusal :=
  instr 8 (rotR8 .sra (.reg .h)) s

/-- CB 2D: SRA L (R344). -/
def execSraL (s : State) : Outcome State Fault Refusal :=
  instr 8 (rotR8 .sra (.reg .l)) s

/-- CB 2E: SRA (HL) (R345), its address resolved. -/
def runSraAtHL (ea : Word) (s : State) : Outcome State Fault Refusal :=
  instr 16 (rotR8 .sra (.mem ea)) s

/-- CB 2E: SRA (HL) (R345). -/
def execSraAtHL (s : State) : Outcome State Fault Refusal :=
  runSraAtHL s.hl s

/-- CB 2F: SRA A (R344). -/
def execSraA (s : State) : Outcome State Fault Refusal :=
  instr 8 (rotR8 .sra (.reg .a)) s

/-- CB 30: SWAP B (R346). -/
def execSwapB (s : State) : Outcome State Fault Refusal :=
  instr 8 (rotR8 .swap (.reg .b)) s

/-- CB 31: SWAP C (R346). -/
def execSwapC (s : State) : Outcome State Fault Refusal :=
  instr 8 (rotR8 .swap (.reg .c)) s

/-- CB 32: SWAP D (R346). -/
def execSwapD (s : State) : Outcome State Fault Refusal :=
  instr 8 (rotR8 .swap (.reg .d)) s

/-- CB 33: SWAP E (R346). -/
def execSwapE (s : State) : Outcome State Fault Refusal :=
  instr 8 (rotR8 .swap (.reg .e)) s

/-- CB 34: SWAP H (R346). -/
def execSwapH (s : State) : Outcome State Fault Refusal :=
  instr 8 (rotR8 .swap (.reg .h)) s

/-- CB 35: SWAP L (R346). -/
def execSwapL (s : State) : Outcome State Fault Refusal :=
  instr 8 (rotR8 .swap (.reg .l)) s

/-- CB 36: SWAP (HL) (R347), its address resolved. -/
def runSwapAtHL (ea : Word) (s : State) : Outcome State Fault Refusal :=
  instr 16 (rotR8 .swap (.mem ea)) s

/-- CB 36: SWAP (HL) (R347). -/
def execSwapAtHL (s : State) : Outcome State Fault Refusal :=
  runSwapAtHL s.hl s

/-- CB 37: SWAP A (R346). -/
def execSwapA (s : State) : Outcome State Fault Refusal :=
  instr 8 (rotR8 .swap (.reg .a)) s

/-- CB 38: SRL B (R348). -/
def execSrlB (s : State) : Outcome State Fault Refusal :=
  instr 8 (rotR8 .srl (.reg .b)) s

/-- CB 39: SRL C (R348). -/
def execSrlC (s : State) : Outcome State Fault Refusal :=
  instr 8 (rotR8 .srl (.reg .c)) s

/-- CB 3A: SRL D (R348). -/
def execSrlD (s : State) : Outcome State Fault Refusal :=
  instr 8 (rotR8 .srl (.reg .d)) s

/-- CB 3B: SRL E (R348). -/
def execSrlE (s : State) : Outcome State Fault Refusal :=
  instr 8 (rotR8 .srl (.reg .e)) s

/-- CB 3C: SRL H (R348). -/
def execSrlH (s : State) : Outcome State Fault Refusal :=
  instr 8 (rotR8 .srl (.reg .h)) s

/-- CB 3D: SRL L (R348). -/
def execSrlL (s : State) : Outcome State Fault Refusal :=
  instr 8 (rotR8 .srl (.reg .l)) s

/-- CB 3E: SRL (HL) (R349), its address resolved. -/
def runSrlAtHL (ea : Word) (s : State) : Outcome State Fault Refusal :=
  instr 16 (rotR8 .srl (.mem ea)) s

/-- CB 3E: SRL (HL) (R349). -/
def execSrlAtHL (s : State) : Outcome State Fault Refusal :=
  runSrlAtHL s.hl s

/-- CB 3F: SRL A (R348). -/
def execSrlA (s : State) : Outcome State Fault Refusal :=
  instr 8 (rotR8 .srl (.reg .a)) s

end Sys2Proof.Machine
end

