-- ==== Sys2Proof/Machine/Escape.lean ====
section
/-! DEFINITION. The escape byte's own row (47_system.md R406): 0xCB followed by `op2` is the escape table's instruction for
`op2`, read here from the fields of `op2` (30_encoding.md R125) and not through the table's rows
(DESIGN CHOICE, safe: log entry 9). -/

namespace Sys2Proof.Machine

open Host

/-- The cost of an escape-table operation (45_rotate_shift_bit.md): 8 on a register, `atHL` on the byte at HL. -/
def escapeCost (r : R8) (atHL : Nat) : Nat :=
  match r with
  | .reg _ => 8
  | .atHL => atHL

/-- CB: the escape byte and `op2` (R406), the address of `(HL)` resolved. -/
def runPrefixCB (ea : Word) (op2 : Byte) (s : State) : Outcome State Fault Refusal :=
  let y := op2.toNat / 8 % 8
  let r := r8OfCode (op2.toNat % 8)
  match op2.toNat / 64 with
  | 0 => instr (escapeCost r 16) (rotR8 (rotOfCode y) (r.place ea)) s
  | 1 => instr (escapeCost r 12) (bitR8 (idxOfCode y) (r.place ea)) s
  | 2 => instr (escapeCost r 16) (resR8 (idxOfCode y) (r.place ea)) s
  | _ => instr (escapeCost r 16) (setBitR8 (idxOfCode y) (r.place ea)) s

/-- CB: the escape byte and `op2` (R406). -/
def execPrefixCB (op2 : Byte) (s : State) : Outcome State Fault Refusal :=
  runPrefixCB s.hl op2 s

end Sys2Proof.Machine
end

