-- ==== Sys2Proof/Machine/Loads16.lean ====
section
/-! DEFINITION. The 16-bit loads, PUSH and POP (42_loads16_stack.md): the shared bodies, then one meaning per row. -/

namespace Sys2Proof.Machine

open Host

/-! ### Shared bodies -/

/-- `LD dd,nn` (R242). -/
def loadPairImm (p : Pair) (nn : Word) (s : State) : Except Fault State :=
  .ok ((s.setPair p nn).advance 3)

/-- `LD (nn),SP` (R243): SP to the address `ea`. -/
def storeSP (ea : Word) (s : State) : Except Fault State := do
  let t ← memWrite16 ea s.sp s
  return t.advance 3

/-- `LD SP,HL` (R244). -/
def loadSPHL (s : State) : Except Fault State :=
  .ok ((s.setSP s.hl).advance 1)

/-- `LD HL,SP+e` (R245). -/
def loadHLSPDisp (e : Byte) (s : State) : Except Fault State :=
  let o := addE s.sp e
  .ok (((s.setHL o.r).setFlags false false o.h o.c).advance 2)

/-- `PUSH qq` (R246, R247). -/
def pushPair (p : StackPair) (s : State) : Except Fault State := do
  let t ← push16 (s.getStackPair p) s
  return t.advance 1

/-- `POP qq` (R248, R249). -/
def popPair (p : StackPair) (s : State) : Except Fault State := do
  let (v, t) ← pop16 s
  return (t.setStackPair p v).advance 1

/-! ### The rows -/

/-- 01: LD BC,nn (R242). -/
def execLdBCImm16 (nn : Word) (s : State) : Outcome State Fault Refusal :=
  instr 12 (loadPairImm .bc nn) s

/-- 08: LD (nn),SP (R243), its address resolved. -/
def runLdAtImm16SP (ea : Word) (s : State) : Outcome State Fault Refusal :=
  instr 20 (storeSP ea) s

/-- 08: LD (nn),SP (R243). -/
def execLdAtImm16SP (nn : Word) (s : State) : Outcome State Fault Refusal :=
  runLdAtImm16SP nn s

/-- 11: LD DE,nn (R242). -/
def execLdDEImm16 (nn : Word) (s : State) : Outcome State Fault Refusal :=
  instr 12 (loadPairImm .de nn) s

/-- 21: LD HL,nn (R242). -/
def execLdHLImm16 (nn : Word) (s : State) : Outcome State Fault Refusal :=
  instr 12 (loadPairImm .hl nn) s

/-- 31: LD SP,nn (R242). -/
def execLdSPImm16 (nn : Word) (s : State) : Outcome State Fault Refusal :=
  instr 12 (loadPairImm .sp nn) s

/-- C1: POP BC (R248). -/
def execPopBC (s : State) : Outcome State Fault Refusal :=
  instr 12 (popPair .bc) s

/-- C5: PUSH BC (R246). -/
def execPushBC (s : State) : Outcome State Fault Refusal :=
  instr 16 (pushPair .bc) s

/-- D1: POP DE (R248). -/
def execPopDE (s : State) : Outcome State Fault Refusal :=
  instr 12 (popPair .de) s

/-- D5: PUSH DE (R246). -/
def execPushDE (s : State) : Outcome State Fault Refusal :=
  instr 16 (pushPair .de) s

/-- E1: POP HL (R248). -/
def execPopHL (s : State) : Outcome State Fault Refusal :=
  instr 12 (popPair .hl) s

/-- E5: PUSH HL (R246). -/
def execPushHL (s : State) : Outcome State Fault Refusal :=
  instr 16 (pushPair .hl) s

/-- F1: POP AF (R249). -/
def execPopAF (s : State) : Outcome State Fault Refusal :=
  instr 12 (popPair .af) s

/-- F5: PUSH AF (R247). -/
def execPushAF (s : State) : Outcome State Fault Refusal :=
  instr 16 (pushPair .af) s

/-- F8: LD HL,SP+e (R245). -/
def execLdHLSPDisp (e : Byte) (s : State) : Outcome State Fault Refusal :=
  instr 12 (loadHLSPDisp e) s

/-- F9: LD SP,HL (R244). -/
def execLdSPHL (s : State) : Outcome State Fault Refusal :=
  instr 8 loadSPHL s

end Sys2Proof.Machine
end

