-- ==== Sys2Proof/Machine/Loads8.lean ====
section
/-! DEFINITION. The 8-bit loads (41_loads8.md): the shared bodies, then one meaning per row. -/

namespace Sys2Proof.Machine

open Host

/-! ### Shared bodies -/

/-- `LD r,r'`, `LD r,(HL)`, `LD (HL),r` (R200 to R202). -/
def loadR8 (d src : Place) (s : State) : Except Fault State := do
  let v ← getR8 src s
  let t ← setR8 d v s
  return t.advance 1

/-- `LD r,n` and `LD (HL),n` (R203, R204). -/
def loadImm (d : Place) (n : Byte) (s : State) : Except Fault State := do
  let t ← setR8 d n s
  return t.advance 2

/-- A load of A from the address `ea`, by an instruction of `len` bytes (R205, R206, R209, R211, R213). -/
def loadA (ea len : Word) (s : State) : Except Fault State := do
  let v ← busRead8 ea s
  return (s.setReg .a v).advance len

/-- A store of A to the address `ea` (R207, R208, R210, R212, R214). -/
def storeA (ea len : Word) (s : State) : Except Fault State := do
  let t ← busWrite8 ea s.a s
  return t.advance len

/-- The auto-indexing loads (R215, R216): A from the address `ea`, then the post-effect moves HL (R133). -/
def loadAStep (move : Word → Word) (ea : Word) (s : State) : Except Fault State := do
  let v ← busRead8 ea s
  return ((s.setReg .a v).setHL (move s.hl)).advance 1

/-- The auto-indexing stores (R217, R218): A to the address `ea`, then the post-effect moves HL (R133). -/
def storeAStep (move : Word → Word) (ea : Word) (s : State) : Except Fault State := do
  let t ← busWrite8 ea s.a s
  return (t.setHL (move s.hl)).advance 1

/-! ### The rows -/

/-- 02: LD (BC),A (R207), its address resolved. -/
def runLdAtBCA (ea : Word) (s : State) : Outcome State Fault Refusal :=
  instr 8 (storeA ea 1) s

/-- 02: LD (BC),A (R207). -/
def execLdAtBCA (s : State) : Outcome State Fault Refusal :=
  runLdAtBCA s.bc s

/-- 06: LD B,n (R203). -/
def execLdBImm (n : Byte) (s : State) : Outcome State Fault Refusal :=
  instr 8 (loadImm (.reg .b) n) s

/-- 0A: LD A,(BC) (R205), its address resolved. -/
def runLdAAtBC (ea : Word) (s : State) : Outcome State Fault Refusal :=
  instr 8 (loadA ea 1) s

/-- 0A: LD A,(BC) (R205). -/
def execLdAAtBC (s : State) : Outcome State Fault Refusal :=
  runLdAAtBC s.bc s

/-- 0E: LD C,n (R203). -/
def execLdCImm (n : Byte) (s : State) : Outcome State Fault Refusal :=
  instr 8 (loadImm (.reg .c) n) s

/-- 12: LD (DE),A (R208), its address resolved. -/
def runLdAtDEA (ea : Word) (s : State) : Outcome State Fault Refusal :=
  instr 8 (storeA ea 1) s

/-- 12: LD (DE),A (R208). -/
def execLdAtDEA (s : State) : Outcome State Fault Refusal :=
  runLdAtDEA s.de s

/-- 16: LD D,n (R203). -/
def execLdDImm (n : Byte) (s : State) : Outcome State Fault Refusal :=
  instr 8 (loadImm (.reg .d) n) s

/-- 1A: LD A,(DE) (R206), its address resolved. -/
def runLdAAtDE (ea : Word) (s : State) : Outcome State Fault Refusal :=
  instr 8 (loadA ea 1) s

/-- 1A: LD A,(DE) (R206). -/
def execLdAAtDE (s : State) : Outcome State Fault Refusal :=
  runLdAAtDE s.de s

/-- 1E: LD E,n (R203). -/
def execLdEImm (n : Byte) (s : State) : Outcome State Fault Refusal :=
  instr 8 (loadImm (.reg .e) n) s

/-- 22: LD (HL+),A (R217), its address resolved. -/
def runLdAtHLIncA (ea : Word) (s : State) : Outcome State Fault Refusal :=
  instr 8 (storeAStep (fun a => a + 1) ea) s

/-- 22: LD (HL+),A (R217). -/
def execLdAtHLIncA (s : State) : Outcome State Fault Refusal :=
  runLdAtHLIncA s.hl s

/-- 26: LD H,n (R203). -/
def execLdHImm (n : Byte) (s : State) : Outcome State Fault Refusal :=
  instr 8 (loadImm (.reg .h) n) s

/-- 2A: LD A,(HL+) (R215), its address resolved. -/
def runLdAAtHLInc (ea : Word) (s : State) : Outcome State Fault Refusal :=
  instr 8 (loadAStep (fun a => a + 1) ea) s

/-- 2A: LD A,(HL+) (R215). -/
def execLdAAtHLInc (s : State) : Outcome State Fault Refusal :=
  runLdAAtHLInc s.hl s

/-- 2E: LD L,n (R203). -/
def execLdLImm (n : Byte) (s : State) : Outcome State Fault Refusal :=
  instr 8 (loadImm (.reg .l) n) s

/-- 32: LD (HL-),A (R218), its address resolved. -/
def runLdAtHLDecA (ea : Word) (s : State) : Outcome State Fault Refusal :=
  instr 8 (storeAStep (fun a => a - 1) ea) s

/-- 32: LD (HL-),A (R218). -/
def execLdAtHLDecA (s : State) : Outcome State Fault Refusal :=
  runLdAtHLDecA s.hl s

/-- 36: LD (HL),n (R204), its address resolved. -/
def runLdAtHLImm (ea : Word) (n : Byte) (s : State) : Outcome State Fault Refusal :=
  instr 12 (loadImm (.mem ea) n) s

/-- 36: LD (HL),n (R204). -/
def execLdAtHLImm (n : Byte) (s : State) : Outcome State Fault Refusal :=
  runLdAtHLImm s.hl n s

/-- 3A: LD A,(HL-) (R216), its address resolved. -/
def runLdAAtHLDec (ea : Word) (s : State) : Outcome State Fault Refusal :=
  instr 8 (loadAStep (fun a => a - 1) ea) s

/-- 3A: LD A,(HL-) (R216). -/
def execLdAAtHLDec (s : State) : Outcome State Fault Refusal :=
  runLdAAtHLDec s.hl s

/-- 3E: LD A,n (R203). -/
def execLdAImm (n : Byte) (s : State) : Outcome State Fault Refusal :=
  instr 8 (loadImm (.reg .a) n) s

/-- 40: LD B,B (R200). -/
def execLdBB (s : State) : Outcome State Fault Refusal :=
  instr 4 (loadR8 (.reg .b) (.reg .b)) s

/-- 41: LD B,C (R200). -/
def execLdBC (s : State) : Outcome State Fault Refusal :=
  instr 4 (loadR8 (.reg .b) (.reg .c)) s

/-- 42: LD B,D (R200). -/
def execLdBD (s : State) : Outcome State Fault Refusal :=
  instr 4 (loadR8 (.reg .b) (.reg .d)) s

/-- 43: LD B,E (R200). -/
def execLdBE (s : State) : Outcome State Fault Refusal :=
  instr 4 (loadR8 (.reg .b) (.reg .e)) s

/-- 44: LD B,H (R200). -/
def execLdBH (s : State) : Outcome State Fault Refusal :=
  instr 4 (loadR8 (.reg .b) (.reg .h)) s

/-- 45: LD B,L (R200). -/
def execLdBL (s : State) : Outcome State Fault Refusal :=
  instr 4 (loadR8 (.reg .b) (.reg .l)) s

/-- 46: LD B,(HL) (R201), its address resolved. -/
def runLdBAtHL (ea : Word) (s : State) : Outcome State Fault Refusal :=
  instr 8 (loadR8 (.reg .b) (.mem ea)) s

/-- 46: LD B,(HL) (R201). -/
def execLdBAtHL (s : State) : Outcome State Fault Refusal :=
  runLdBAtHL s.hl s

/-- 47: LD B,A (R200). -/
def execLdBA (s : State) : Outcome State Fault Refusal :=
  instr 4 (loadR8 (.reg .b) (.reg .a)) s

/-- 48: LD C,B (R200). -/
def execLdCB (s : State) : Outcome State Fault Refusal :=
  instr 4 (loadR8 (.reg .c) (.reg .b)) s

/-- 49: LD C,C (R200). -/
def execLdCC (s : State) : Outcome State Fault Refusal :=
  instr 4 (loadR8 (.reg .c) (.reg .c)) s

/-- 4A: LD C,D (R200). -/
def execLdCD (s : State) : Outcome State Fault Refusal :=
  instr 4 (loadR8 (.reg .c) (.reg .d)) s

/-- 4B: LD C,E (R200). -/
def execLdCE (s : State) : Outcome State Fault Refusal :=
  instr 4 (loadR8 (.reg .c) (.reg .e)) s

/-- 4C: LD C,H (R200). -/
def execLdCH (s : State) : Outcome State Fault Refusal :=
  instr 4 (loadR8 (.reg .c) (.reg .h)) s

/-- 4D: LD C,L (R200). -/
def execLdCL (s : State) : Outcome State Fault Refusal :=
  instr 4 (loadR8 (.reg .c) (.reg .l)) s

/-- 4E: LD C,(HL) (R201), its address resolved. -/
def runLdCAtHL (ea : Word) (s : State) : Outcome State Fault Refusal :=
  instr 8 (loadR8 (.reg .c) (.mem ea)) s

/-- 4E: LD C,(HL) (R201). -/
def execLdCAtHL (s : State) : Outcome State Fault Refusal :=
  runLdCAtHL s.hl s

/-- 4F: LD C,A (R200). -/
def execLdCA (s : State) : Outcome State Fault Refusal :=
  instr 4 (loadR8 (.reg .c) (.reg .a)) s

/-- 50: LD D,B (R200). -/
def execLdDB (s : State) : Outcome State Fault Refusal :=
  instr 4 (loadR8 (.reg .d) (.reg .b)) s

/-- 51: LD D,C (R200). -/
def execLdDC (s : State) : Outcome State Fault Refusal :=
  instr 4 (loadR8 (.reg .d) (.reg .c)) s

/-- 52: LD D,D (R200). -/
def execLdDD (s : State) : Outcome State Fault Refusal :=
  instr 4 (loadR8 (.reg .d) (.reg .d)) s

/-- 53: LD D,E (R200). -/
def execLdDE (s : State) : Outcome State Fault Refusal :=
  instr 4 (loadR8 (.reg .d) (.reg .e)) s

/-- 54: LD D,H (R200). -/
def execLdDH (s : State) : Outcome State Fault Refusal :=
  instr 4 (loadR8 (.reg .d) (.reg .h)) s

/-- 55: LD D,L (R200). -/
def execLdDL (s : State) : Outcome State Fault Refusal :=
  instr 4 (loadR8 (.reg .d) (.reg .l)) s

/-- 56: LD D,(HL) (R201), its address resolved. -/
def runLdDAtHL (ea : Word) (s : State) : Outcome State Fault Refusal :=
  instr 8 (loadR8 (.reg .d) (.mem ea)) s

/-- 56: LD D,(HL) (R201). -/
def execLdDAtHL (s : State) : Outcome State Fault Refusal :=
  runLdDAtHL s.hl s

/-- 57: LD D,A (R200). -/
def execLdDA (s : State) : Outcome State Fault Refusal :=
  instr 4 (loadR8 (.reg .d) (.reg .a)) s

/-- 58: LD E,B (R200). -/
def execLdEB (s : State) : Outcome State Fault Refusal :=
  instr 4 (loadR8 (.reg .e) (.reg .b)) s

/-- 59: LD E,C (R200). -/
def execLdEC (s : State) : Outcome State Fault Refusal :=
  instr 4 (loadR8 (.reg .e) (.reg .c)) s

/-- 5A: LD E,D (R200). -/
def execLdED (s : State) : Outcome State Fault Refusal :=
  instr 4 (loadR8 (.reg .e) (.reg .d)) s

/-- 5B: LD E,E (R200). -/
def execLdEE (s : State) : Outcome State Fault Refusal :=
  instr 4 (loadR8 (.reg .e) (.reg .e)) s

/-- 5C: LD E,H (R200). -/
def execLdEH (s : State) : Outcome State Fault Refusal :=
  instr 4 (loadR8 (.reg .e) (.reg .h)) s

/-- 5D: LD E,L (R200). -/
def execLdEL (s : State) : Outcome State Fault Refusal :=
  instr 4 (loadR8 (.reg .e) (.reg .l)) s

/-- 5E: LD E,(HL) (R201), its address resolved. -/
def runLdEAtHL (ea : Word) (s : State) : Outcome State Fault Refusal :=
  instr 8 (loadR8 (.reg .e) (.mem ea)) s

/-- 5E: LD E,(HL) (R201). -/
def execLdEAtHL (s : State) : Outcome State Fault Refusal :=
  runLdEAtHL s.hl s

/-- 5F: LD E,A (R200). -/
def execLdEA (s : State) : Outcome State Fault Refusal :=
  instr 4 (loadR8 (.reg .e) (.reg .a)) s

/-- 60: LD H,B (R200). -/
def execLdHB (s : State) : Outcome State Fault Refusal :=
  instr 4 (loadR8 (.reg .h) (.reg .b)) s

/-- 61: LD H,C (R200). -/
def execLdHC (s : State) : Outcome State Fault Refusal :=
  instr 4 (loadR8 (.reg .h) (.reg .c)) s

/-- 62: LD H,D (R200). -/
def execLdHD (s : State) : Outcome State Fault Refusal :=
  instr 4 (loadR8 (.reg .h) (.reg .d)) s

/-- 63: LD H,E (R200). -/
def execLdHE (s : State) : Outcome State Fault Refusal :=
  instr 4 (loadR8 (.reg .h) (.reg .e)) s

/-- 64: LD H,H (R200). -/
def execLdHH (s : State) : Outcome State Fault Refusal :=
  instr 4 (loadR8 (.reg .h) (.reg .h)) s

/-- 65: LD H,L (R200). -/
def execLdHL (s : State) : Outcome State Fault Refusal :=
  instr 4 (loadR8 (.reg .h) (.reg .l)) s

/-- 66: LD H,(HL) (R201), its address resolved. -/
def runLdHAtHL (ea : Word) (s : State) : Outcome State Fault Refusal :=
  instr 8 (loadR8 (.reg .h) (.mem ea)) s

/-- 66: LD H,(HL) (R201). -/
def execLdHAtHL (s : State) : Outcome State Fault Refusal :=
  runLdHAtHL s.hl s

/-- 67: LD H,A (R200). -/
def execLdHA (s : State) : Outcome State Fault Refusal :=
  instr 4 (loadR8 (.reg .h) (.reg .a)) s

/-- 68: LD L,B (R200). -/
def execLdLB (s : State) : Outcome State Fault Refusal :=
  instr 4 (loadR8 (.reg .l) (.reg .b)) s

/-- 69: LD L,C (R200). -/
def execLdLC (s : State) : Outcome State Fault Refusal :=
  instr 4 (loadR8 (.reg .l) (.reg .c)) s

/-- 6A: LD L,D (R200). -/
def execLdLD (s : State) : Outcome State Fault Refusal :=
  instr 4 (loadR8 (.reg .l) (.reg .d)) s

/-- 6B: LD L,E (R200). -/
def execLdLE (s : State) : Outcome State Fault Refusal :=
  instr 4 (loadR8 (.reg .l) (.reg .e)) s

/-- 6C: LD L,H (R200). -/
def execLdLH (s : State) : Outcome State Fault Refusal :=
  instr 4 (loadR8 (.reg .l) (.reg .h)) s

/-- 6D: LD L,L (R200). -/
def execLdLL (s : State) : Outcome State Fault Refusal :=
  instr 4 (loadR8 (.reg .l) (.reg .l)) s

/-- 6E: LD L,(HL) (R201), its address resolved. -/
def runLdLAtHL (ea : Word) (s : State) : Outcome State Fault Refusal :=
  instr 8 (loadR8 (.reg .l) (.mem ea)) s

/-- 6E: LD L,(HL) (R201). -/
def execLdLAtHL (s : State) : Outcome State Fault Refusal :=
  runLdLAtHL s.hl s

/-- 6F: LD L,A (R200). -/
def execLdLA (s : State) : Outcome State Fault Refusal :=
  instr 4 (loadR8 (.reg .l) (.reg .a)) s

/-- 70: LD (HL),B (R202), its address resolved. -/
def runLdAtHLB (ea : Word) (s : State) : Outcome State Fault Refusal :=
  instr 8 (loadR8 (.mem ea) (.reg .b)) s

/-- 70: LD (HL),B (R202). -/
def execLdAtHLB (s : State) : Outcome State Fault Refusal :=
  runLdAtHLB s.hl s

/-- 71: LD (HL),C (R202), its address resolved. -/
def runLdAtHLC (ea : Word) (s : State) : Outcome State Fault Refusal :=
  instr 8 (loadR8 (.mem ea) (.reg .c)) s

/-- 71: LD (HL),C (R202). -/
def execLdAtHLC (s : State) : Outcome State Fault Refusal :=
  runLdAtHLC s.hl s

/-- 72: LD (HL),D (R202), its address resolved. -/
def runLdAtHLD (ea : Word) (s : State) : Outcome State Fault Refusal :=
  instr 8 (loadR8 (.mem ea) (.reg .d)) s

/-- 72: LD (HL),D (R202). -/
def execLdAtHLD (s : State) : Outcome State Fault Refusal :=
  runLdAtHLD s.hl s

/-- 73: LD (HL),E (R202), its address resolved. -/
def runLdAtHLE (ea : Word) (s : State) : Outcome State Fault Refusal :=
  instr 8 (loadR8 (.mem ea) (.reg .e)) s

/-- 73: LD (HL),E (R202). -/
def execLdAtHLE (s : State) : Outcome State Fault Refusal :=
  runLdAtHLE s.hl s

/-- 74: LD (HL),H (R202), its address resolved. -/
def runLdAtHLH (ea : Word) (s : State) : Outcome State Fault Refusal :=
  instr 8 (loadR8 (.mem ea) (.reg .h)) s

/-- 74: LD (HL),H (R202). -/
def execLdAtHLH (s : State) : Outcome State Fault Refusal :=
  runLdAtHLH s.hl s

/-- 75: LD (HL),L (R202), its address resolved. -/
def runLdAtHLL (ea : Word) (s : State) : Outcome State Fault Refusal :=
  instr 8 (loadR8 (.mem ea) (.reg .l)) s

/-- 75: LD (HL),L (R202). -/
def execLdAtHLL (s : State) : Outcome State Fault Refusal :=
  runLdAtHLL s.hl s

/-- 77: LD (HL),A (R202), its address resolved. -/
def runLdAtHLA (ea : Word) (s : State) : Outcome State Fault Refusal :=
  instr 8 (loadR8 (.mem ea) (.reg .a)) s

/-- 77: LD (HL),A (R202). -/
def execLdAtHLA (s : State) : Outcome State Fault Refusal :=
  runLdAtHLA s.hl s

/-- 78: LD A,B (R200). -/
def execLdAB (s : State) : Outcome State Fault Refusal :=
  instr 4 (loadR8 (.reg .a) (.reg .b)) s

/-- 79: LD A,C (R200). -/
def execLdAC (s : State) : Outcome State Fault Refusal :=
  instr 4 (loadR8 (.reg .a) (.reg .c)) s

/-- 7A: LD A,D (R200). -/
def execLdAD (s : State) : Outcome State Fault Refusal :=
  instr 4 (loadR8 (.reg .a) (.reg .d)) s

/-- 7B: LD A,E (R200). -/
def execLdAE (s : State) : Outcome State Fault Refusal :=
  instr 4 (loadR8 (.reg .a) (.reg .e)) s

/-- 7C: LD A,H (R200). -/
def execLdAH (s : State) : Outcome State Fault Refusal :=
  instr 4 (loadR8 (.reg .a) (.reg .h)) s

/-- 7D: LD A,L (R200). -/
def execLdAL (s : State) : Outcome State Fault Refusal :=
  instr 4 (loadR8 (.reg .a) (.reg .l)) s

/-- 7E: LD A,(HL) (R201), its address resolved. -/
def runLdAAtHL (ea : Word) (s : State) : Outcome State Fault Refusal :=
  instr 8 (loadR8 (.reg .a) (.mem ea)) s

/-- 7E: LD A,(HL) (R201). -/
def execLdAAtHL (s : State) : Outcome State Fault Refusal :=
  runLdAAtHL s.hl s

/-- 7F: LD A,A (R200). -/
def execLdAA (s : State) : Outcome State Fault Refusal :=
  instr 4 (loadR8 (.reg .a) (.reg .a)) s

/-- E0: LDH (n),A (R212), its address resolved. -/
def runLdhAtImmA (ea : Word) (s : State) : Outcome State Fault Refusal :=
  instr 12 (storeA ea 2) s

/-- E0: LDH (n),A (R212). -/
def execLdhAtImmA (n : Byte) (s : State) : Outcome State Fault Refusal :=
  runLdhAtImmA (highPage n) s

/-- E2: LD (C),A (R214), its address resolved. -/
def runLdAtCA (ea : Word) (s : State) : Outcome State Fault Refusal :=
  instr 8 (storeA ea 1) s

/-- E2: LD (C),A (R214). -/
def execLdAtCA (s : State) : Outcome State Fault Refusal :=
  runLdAtCA (highPage s.c) s

/-- EA: LD (nn),A (R210), its address resolved. -/
def runLdAtImm16A (ea : Word) (s : State) : Outcome State Fault Refusal :=
  instr 16 (storeA ea 3) s

/-- EA: LD (nn),A (R210). -/
def execLdAtImm16A (nn : Word) (s : State) : Outcome State Fault Refusal :=
  runLdAtImm16A nn s

/-- F0: LDH A,(n) (R211), its address resolved. -/
def runLdhAAtImm (ea : Word) (s : State) : Outcome State Fault Refusal :=
  instr 12 (loadA ea 2) s

/-- F0: LDH A,(n) (R211). -/
def execLdhAAtImm (n : Byte) (s : State) : Outcome State Fault Refusal :=
  runLdhAAtImm (highPage n) s

/-- F2: LD A,(C) (R213), its address resolved. -/
def runLdAAtC (ea : Word) (s : State) : Outcome State Fault Refusal :=
  instr 8 (loadA ea 1) s

/-- F2: LD A,(C) (R213). -/
def execLdAAtC (s : State) : Outcome State Fault Refusal :=
  runLdAAtC (highPage s.c) s

/-- FA: LD A,(nn) (R209), its address resolved. -/
def runLdAAtImm16 (ea : Word) (s : State) : Outcome State Fault Refusal :=
  instr 16 (loadA ea 3) s

/-- FA: LD A,(nn) (R209). -/
def execLdAAtImm16 (nn : Word) (s : State) : Outcome State Fault Refusal :=
  runLdAAtImm16 nn s

end Sys2Proof.Machine
end

