-- ==== Sys2Proof/Machine/System.lean ====
section
/-! DEFINITION. NOP, DI, EI, and the opcodes that fault at decode (47_system.md): the shared bodies, then one meaning per row.
A faulting row charges nothing (R421, R422). -/

namespace Sys2Proof.Machine

open Host

/-! ### Shared bodies -/

/-- `NOP` (R400). -/
def nopBody (s : State) : Except Fault State :=
  .ok (s.advance 1)

/-- `DI` (R401): IME_NEXT is not written. -/
def diBody (s : State) : Except Fault State :=
  .ok ((s.setIme false).advance 1)

/-- `EI` (R402): only the latch is set. -/
def eiBody (s : State) : Except Fault State :=
  .ok ((s.setImeNext true).advance 1)

/-! ### The rows -/

/-- 00: NOP (R400). -/
def execNop (s : State) : Outcome State Fault Refusal :=
  instr 4 nopBody s

/-- 10: STOP (R404). -/
def execStop (s : State) : Outcome State Fault Refusal :=
  settle s (.error (.unimplemented 0x10 s.pc))

/-- 76: HALT (R403). -/
def execHalt (s : State) : Outcome State Fault Refusal :=
  settle s (.error (.unimplemented 0x76 s.pc))

/-- D3: unused (R405). -/
def execUnusedD3 (s : State) : Outcome State Fault Refusal :=
  settle s (.error (.unusedOpcode 0xD3 s.pc))

/-- DB: unused (R405). -/
def execUnusedDB (s : State) : Outcome State Fault Refusal :=
  settle s (.error (.unusedOpcode 0xDB s.pc))

/-- DD: unused (R405). -/
def execUnusedDD (s : State) : Outcome State Fault Refusal :=
  settle s (.error (.unusedOpcode 0xDD s.pc))

/-- E3: unused (R405). -/
def execUnusedE3 (s : State) : Outcome State Fault Refusal :=
  settle s (.error (.unusedOpcode 0xE3 s.pc))

/-- E4: unused (R405). -/
def execUnusedE4 (s : State) : Outcome State Fault Refusal :=
  settle s (.error (.unusedOpcode 0xE4 s.pc))

/-- EB: unused (R405). -/
def execUnusedEB (s : State) : Outcome State Fault Refusal :=
  settle s (.error (.unusedOpcode 0xEB s.pc))

/-- EC: unused (R405). -/
def execUnusedEC (s : State) : Outcome State Fault Refusal :=
  settle s (.error (.unusedOpcode 0xEC s.pc))

/-- ED: unused (R405). -/
def execUnusedED (s : State) : Outcome State Fault Refusal :=
  settle s (.error (.unusedOpcode 0xED s.pc))

/-- F3: DI (R401). -/
def execDi (s : State) : Outcome State Fault Refusal :=
  instr 4 diBody s

/-- F4: unused (R405). -/
def execUnusedF4 (s : State) : Outcome State Fault Refusal :=
  settle s (.error (.unusedOpcode 0xF4 s.pc))

/-- FB: EI (R402). -/
def execEi (s : State) : Outcome State Fault Refusal :=
  instr 4 eiBody s

/-- FC: unused (R405). -/
def execUnusedFC (s : State) : Outcome State Fault Refusal :=
  settle s (.error (.unusedOpcode 0xFC s.pc))

/-- FD: unused (R405). -/
def execUnusedFD (s : State) : Outcome State Fault Refusal :=
  settle s (.error (.unusedOpcode 0xFD s.pc))

end Sys2Proof.Machine
end

