-- ==== Sys2Proof/Machine/Fetch.lean ====
section
/-! DEFINITION. FETCH and DECODE (30_encoding.md R112, R150): the instruction's bytes are read through the bus while pc still
holds the address of the first one, in the order of 60_exceptions.md R426. -/

namespace Sys2Proof.Machine

/-- The byte at an offset from pc (R112), modulo 2^16 (R41). For 0xCB this is the byte at pc + 1, so with pc at 0xFFFF `op2` comes
from 0x0000, although a corner case of 47_system.md R406 says there that it comes from the IE cell (DESIGN CHOICE, unsafe where
that corner case is meant: log entry 20). -/
def fetchByte (s : State) (k : Nat) : Except Fault Byte :=
  busRead8 (s.pc + BitVec.ofNat 16 k) s

/-- The instruction at pc, or the first fault its fetches raise. The decode faults of R422 are the meanings of the rows that
raise them: decode reads no further byte for those rows. -/
def fetchDecode (s : State) : Except Fault Instr := decodeWith (fetchByte s)

end Sys2Proof.Machine
end

