-- ==== Sys2Proof/Machine/Step.lean ====
section
/-! DEFINITION. One step of the block (30_encoding.md R150). -/

namespace Sys2Proof.Machine

open Host

/-- The step: while RUN is `Running`, fetch and decode, then charge and execute; a fault of the fetch sets RUN and nothing
else (R421). While RUN is `Faulted` no step runs (10_state.md R45): the machine has stopped with that fault (DESIGN
CHOICE, safe: log entry 2). No host call or interrupt lands inside a step (log entry 7). -/
def step (s : State) : Outcome State Fault Refusal :=
  match s.run with
  | .faulted f => .fault f
  | .running =>
    match fetchDecode s with
    | .error f => settle s (.error f)
    | .ok i => exec i s

/-- The state with the bytes of such a word at pc, where the next step fetches them (DESIGN CHOICE, safe: log
entry 11). -/
def State.withFetchWord (s : State) (nbits w : Nat) : State := storeBytes s.pc (tableBytes nbits w) s

end Sys2Proof.Machine
end

