-- ==== Sys2Proof/Machine/Footprint.lean ====
section
/-! DEFINITION. What each instruction may write, as its rule says (10_state.md R49, 20_memory.md R84): the registers, SP, and
the bytes of memory. The frames are stated with these tables; `exec` does not use them. The escape byte's own row has no
entry: its footprint is that of `Instr.core`. -/

namespace Sys2Proof

open Machine

/-- The 8-bit registers an instruction's rule writes; a pair is its two halves (R37). -/
def Instr.regsWritten : Instr → List Reg8
  | .ldBCImm16 _ | .incBC | .decBC | .popBC => [.b, .c]
  | .incB | .decB | .ldBImm _ | .ldBB | .ldBC | .ldBD | .ldBE | .ldBH
  | .ldBL | .ldBAtHL | .ldBA | .rlcB | .rrcB | .rlB | .rrB | .slaB
  | .sraB | .swapB | .srlB | .res0B | .res1B | .res2B | .res3B | .res4B
  | .res5B | .res6B | .res7B | .set0B | .set1B | .set2B | .set3B | .set4B
  | .set5B | .set6B | .set7B => [.b]
  | .rlca | .ldAAtBC | .rrca | .rla | .ldAAtDE | .rra | .daa | .cpl
  | .incA | .decA | .ldAImm _ | .ldAB | .ldAC | .ldAD | .ldAE | .ldAH
  | .ldAL | .ldAAtHL | .ldAA | .addAB | .addAC | .addAD | .addAE | .addAH
  | .addAL | .addAAtHL | .addAA | .adcAB | .adcAC | .adcAD | .adcAE | .adcAH
  | .adcAL | .adcAAtHL | .adcAA | .subB | .subC | .subD | .subE | .subH
  | .subL | .subAtHL | .subA | .sbcAB | .sbcAC | .sbcAD | .sbcAE | .sbcAH
  | .sbcAL | .sbcAAtHL | .sbcAA | .andB | .andC | .andD | .andE | .andH
  | .andL | .andAtHL | .andA | .xorB | .xorC | .xorD | .xorE | .xorH
  | .xorL | .xorAtHL | .xorA | .orB | .orC | .orD | .orE | .orH
  | .orL | .orAtHL | .orA | .addAImm _ | .adcAImm _ | .subImm _ | .sbcAImm _ | .andImm _
  | .xorImm _ | .ldhAAtImm _ | .popAF | .ldAAtC | .orImm _ | .ldAAtImm16 _ | .rlcA | .rrcA
  | .rlA | .rrA | .slaA | .sraA | .swapA | .srlA | .res0A | .res1A
  | .res2A | .res3A | .res4A | .res5A | .res6A | .res7A | .set0A | .set1A
  | .set2A | .set3A | .set4A | .set5A | .set6A | .set7A => [.a]
  | .addHLBC | .addHLDE | .ldHLImm16 _ | .ldAtHLIncA | .incHL | .addHLHL | .decHL | .ldAtHLDecA
  | .addHLSP | .popHL | .ldHLSPDisp _ => [.h, .l]
  | .incC | .decC | .ldCImm _ | .ldCB | .ldCC | .ldCD | .ldCE | .ldCH
  | .ldCL | .ldCAtHL | .ldCA | .rlcC | .rrcC | .rlC | .rrC | .slaC
  | .sraC | .swapC | .srlC | .res0C | .res1C | .res2C | .res3C | .res4C
  | .res5C | .res6C | .res7C | .set0C | .set1C | .set2C | .set3C | .set4C
  | .set5C | .set6C | .set7C => [.c]
  | .ldDEImm16 _ | .incDE | .decDE | .popDE => [.d, .e]
  | .incD | .decD | .ldDImm _ | .ldDB | .ldDC | .ldDD | .ldDE | .ldDH
  | .ldDL | .ldDAtHL | .ldDA | .rlcD | .rrcD | .rlD | .rrD | .slaD
  | .sraD | .swapD | .srlD | .res0D | .res1D | .res2D | .res3D | .res4D
  | .res5D | .res6D | .res7D | .set0D | .set1D | .set2D | .set3D | .set4D
  | .set5D | .set6D | .set7D => [.d]
  | .incE | .decE | .ldEImm _ | .ldEB | .ldEC | .ldED | .ldEE | .ldEH
  | .ldEL | .ldEAtHL | .ldEA | .rlcE | .rrcE | .rlE | .rrE | .slaE
  | .sraE | .swapE | .srlE | .res0E | .res1E | .res2E | .res3E | .res4E
  | .res5E | .res6E | .res7E | .set0E | .set1E | .set2E | .set3E | .set4E
  | .set5E | .set6E | .set7E => [.e]
  | .incH | .decH | .ldHImm _ | .ldHB | .ldHC | .ldHD | .ldHE | .ldHH
  | .ldHL | .ldHAtHL | .ldHA | .rlcH | .rrcH | .rlH | .rrH | .slaH
  | .sraH | .swapH | .srlH | .res0H | .res1H | .res2H | .res3H | .res4H
  | .res5H | .res6H | .res7H | .set0H | .set1H | .set2H | .set3H | .set4H
  | .set5H | .set6H | .set7H => [.h]
  | .ldAAtHLInc | .ldAAtHLDec => [.a, .h, .l]
  | .incL | .decL | .ldLImm _ | .ldLB | .ldLC | .ldLD | .ldLE | .ldLH
  | .ldLL | .ldLAtHL | .ldLA | .rlcL | .rrcL | .rlL | .rrL | .slaL
  | .sraL | .swapL | .srlL | .res0L | .res1L | .res2L | .res3L | .res4L
  | .res5L | .res6L | .res7L | .set0L | .set1L | .set2L | .set3L | .set4L
  | .set5L | .set6L | .set7L => [.l]
  | _ => []

/-- Whether an instruction's rule writes SP. -/
def Instr.writesSP : Instr → Bool
  | .ldSPImm16 _ | .incSP | .decSP | .retNZ | .popBC | .callNZImm16 _ | .pushBC | .rst00
  | .retZ | .ret | .callZImm16 _ | .callImm16 _ | .rst08 | .retNC | .popDE | .callNCImm16 _
  | .pushDE | .rst10 | .retC | .reti | .callCImm16 _ | .rst18 | .popHL | .pushHL
  | .rst20 | .rst28 | .popAF | .pushAF | .rst30 | .ldSPHL | .rst38 => true
  | _ => false

/-- The addresses an instruction stores a byte to, in the order of its rule, from the state it starts in. -/
def Instr.storeAddrs (i : Instr) (s : State) : List Word :=
  match i with
  | .ldAtBCA => [s.bc]
  | .ldAtImm16SP nn => [nn, nn + 1]
  | .ldAtDEA => [s.de]
  | .ldAtHLIncA | .ldAtHLDecA | .incAtHL | .decAtHL | .ldAtHLImm _ | .ldAtHLB | .ldAtHLC | .ldAtHLD
  | .ldAtHLE | .ldAtHLH | .ldAtHLL | .ldAtHLA | .rlcAtHL | .rrcAtHL | .rlAtHL | .rrAtHL
  | .slaAtHL | .sraAtHL | .swapAtHL | .srlAtHL | .res0AtHL | .res1AtHL | .res2AtHL | .res3AtHL
  | .res4AtHL | .res5AtHL | .res6AtHL | .res7AtHL | .set0AtHL | .set1AtHL | .set2AtHL | .set3AtHL
  | .set4AtHL | .set5AtHL | .set6AtHL | .set7AtHL => [s.hl]
  | .callNZImm16 _ => if s.cond .nz then [s.sp - 1, s.sp - 1 - 1] else []
  | .pushBC | .rst00 | .callImm16 _ | .rst08 | .pushDE | .rst10 | .rst18 | .pushHL
  | .rst20 | .rst28 | .pushAF | .rst30 | .rst38 => [s.sp - 1, s.sp - 1 - 1]
  | .callZImm16 _ => if s.cond .z then [s.sp - 1, s.sp - 1 - 1] else []
  | .callNCImm16 _ => if s.cond .nc then [s.sp - 1, s.sp - 1 - 1] else []
  | .callCImm16 _ => if s.cond .c then [s.sp - 1, s.sp - 1 - 1] else []
  | .ldhAtImmA n => [highPage n]
  | .ldAtCA => [highPage s.c]
  | .ldAtImm16A nn => [nn]
  | _ => []

/-- The addresses an instruction's body loads a byte from, in the order of its rule, from the state it starts in. -/
def Instr.loadAddrs (i : Instr) (s : State) : List Word :=
  match i with
  | .ldAAtBC => [s.bc]
  | .ldAAtDE => [s.de]
  | .ldAAtHLInc | .incAtHL | .decAtHL | .ldAAtHLDec | .ldBAtHL | .ldCAtHL | .ldDAtHL | .ldEAtHL | .ldHAtHL | .ldLAtHL
  | .ldAAtHL | .addAAtHL | .adcAAtHL | .subAtHL | .sbcAAtHL | .andAtHL | .xorAtHL | .orAtHL | .cpAtHL | .rlcAtHL
  | .rrcAtHL | .rlAtHL | .rrAtHL | .slaAtHL | .sraAtHL | .swapAtHL | .srlAtHL | .bit0AtHL | .bit1AtHL | .bit2AtHL
  | .bit3AtHL | .bit4AtHL | .bit5AtHL | .bit6AtHL | .bit7AtHL | .res0AtHL | .res1AtHL | .res2AtHL | .res3AtHL
  | .res4AtHL | .res5AtHL | .res6AtHL | .res7AtHL | .set0AtHL | .set1AtHL | .set2AtHL | .set3AtHL | .set4AtHL
  | .set5AtHL | .set6AtHL | .set7AtHL => [s.hl]
  | .retNZ => if s.cond .nz then [s.sp, s.sp + 1] else []
  | .popBC | .ret | .popDE | .reti | .popHL | .popAF => [s.sp, s.sp + 1]
  | .retZ => if s.cond .z then [s.sp, s.sp + 1] else []
  | .retNC => if s.cond .nc then [s.sp, s.sp + 1] else []
  | .retC => if s.cond .c then [s.sp, s.sp + 1] else []
  | .ldhAAtImm n => [highPage n]
  | .ldAAtC => [highPage s.c]
  | .ldAAtImm16 nn => [nn]
  | _ => []

/-- The bus accesses of an instruction's body, in order: every rule that both loads and stores loads first. -/
def Instr.accesses (i : Instr) (s : State) : List (Word × AccessKind) :=
  (i.loadAddrs s).map (fun a => (a, .read)) ++ (i.storeAddrs s).map (fun a => (a, .write))

/-- The first access of an instruction's body that the bus refuses (60_exceptions.md R426 item 5). -/
def Instr.firstRefused (i : Instr) (s : State) : Option (Word × AccessKind) :=
  (i.accesses s).find? fun x => (peek8 x.1 s).isNone

/-- Whether an instruction writes a target to pc from a state: an unconditional transfer of control, or a conditional one whose
condition holds (R40). -/
def Instr.transfers (i : Instr) (s : State) : Bool :=
  match i with
  | .jrDisp _ | .jpImm16 _ | .rst00 | .ret | .callImm16 _ | .rst08 | .rst10 | .reti
  | .rst18 | .rst20 | .jpAtHL | .rst28 | .rst30 | .rst38 => true
  | _ =>
    match i.condition with
    | some cc => s.cond cc
    | none => false

/-- What an instruction charges from a state: the row's `cycles`, or `cycles_not_taken` where its condition fails (R44); `none`
for a row that charges nothing. -/
def Instr.cost (i : Instr) (s : State) : Option Nat :=
  match i.condition with
  | some cc => if s.cond cc then i.row.cycles else i.row.cyclesNotTaken
  | none => i.row.cycles

end Sys2Proof
end

