-- ==== Sys2Proof/Machine/Record.lean ====
section
/-! DEFINITION. The Instruction record decode produces (30_encoding.md R133): the operation with its resolved operands, which
the host holds between `lookup` and `execute` (60_exceptions.md R440), and the CHARGE and EXECUTE stages for a record. The
record is no state of the block (10_state.md R46). -/

namespace Sys2Proof

open Machine Host

/-- The memory address of an instruction's indirect operand, from the registers as they stand at decode (R119, R133); `none` for an
instruction that has none. SP's stack slots are no operand. -/
def Instr.operandAddr (i : Instr) (s : State) : Option Word :=
  match i with
  | .ldAtBCA | .ldAAtBC => some s.bc
  | .ldAtDEA | .ldAAtDE => some s.de
  | .ldAtHLIncA | .ldAAtHLInc | .ldAtHLDecA | .ldAtHLImm _ | .ldAAtHLDec | .ldBAtHL | .ldCAtHL | .ldDAtHL | .ldEAtHL
  | .ldHAtHL | .ldLAtHL | .ldAtHLB | .ldAtHLC | .ldAtHLD | .ldAtHLE | .ldAtHLH | .ldAtHLL | .ldAtHLA
  | .ldAAtHL | .incAtHL | .decAtHL | .addAAtHL | .adcAAtHL | .subAtHL | .sbcAAtHL | .andAtHL | .xorAtHL
  | .orAtHL | .cpAtHL | .rlcAtHL | .rrcAtHL | .rlAtHL | .rrAtHL | .slaAtHL | .sraAtHL | .swapAtHL
  | .srlAtHL | .bit0AtHL | .bit1AtHL | .bit2AtHL | .bit3AtHL | .bit4AtHL | .bit5AtHL | .bit6AtHL | .bit7AtHL
  | .res0AtHL | .res1AtHL | .res2AtHL | .res3AtHL | .res4AtHL | .res5AtHL | .res6AtHL | .res7AtHL | .set0AtHL
  | .set1AtHL | .set2AtHL | .set3AtHL | .set4AtHL | .set5AtHL | .set6AtHL | .set7AtHL => some s.hl
  | .ldhAtImmA n => some (highPage n)
  | .ldhAAtImm n => some (highPage n)
  | .ldAtCA | .ldAAtC => some (highPage s.c)
  | .ldAtImm16A nn => some nn
  | .ldAAtImm16 nn => some nn
  | .ldAtImm16SP nn => some nn
  | .prefixCB op2 => if op2.toNat % 8 = 6 then some s.hl else none
  | _ => none

/-- The post-effect of an auto-indexing load or store (R133). -/
inductive PostEffect where
  | increment
  | decrement
  deriving DecidableEq, Repr

/-- Which post-effect an instruction has (R133, 41_loads8.md R215 to R218). -/
def Instr.postEffect : Instr → Option PostEffect
  | .ldAAtHLInc | .ldAtHLIncA => some .increment
  | .ldAAtHLDec | .ldAtHLDecA => some .decrement
  | _ => none

namespace Machine

/-- The Instruction record (R133). `instr` carries the operation, its register operands by name and its immediates; `addr` is the
memory address of an indirect operand; `holds` is the condition of a conditional instruction as F stood at decode
(40_alu_flags.md R171). -/
structure Instruction where
  instr : Instr
  addr : Option Word
  holds : Option Bool
  deriving DecidableEq, Repr

/-- The record's length in bytes (R133). -/
def Instruction.length (r : Instruction) : Nat := r.instr.row.length

/-- The record's cycle cost, the one of a condition that holds where there are two (R133). -/
def Instruction.cycles (r : Instruction) : Option Nat := r.instr.row.cycles

/-- The second cost of a conditional instruction, where its condition does not hold (R133). -/
def Instruction.cyclesNotTaken (r : Instruction) : Option Nat := r.instr.row.cyclesNotTaken

/-- The record's post-effect (R133). -/
def Instruction.post (r : Instruction) : Option PostEffect := r.instr.postEffect

/-- The record decode makes of an instruction (R133): it reads the state and writes nothing. -/
def record (i : Instr) (s : State) : Instruction := ⟨i, i.operandAddr s, i.condition.map s.cond⟩

/-- CHARGE and EXECUTE for an instruction whose indirect operand lies at `ea` (R119, R133). -/
def execAt (i : Instr) (ea : Word) (s : State) : Outcome State Fault Refusal :=
  match i with
  | .ldAtBCA => runLdAtBCA ea s
  | .ldAAtBC => runLdAAtBC ea s
  | .ldAtDEA => runLdAtDEA ea s
  | .ldAAtDE => runLdAAtDE ea s
  | .ldAtHLIncA => runLdAtHLIncA ea s
  | .ldAAtHLInc => runLdAAtHLInc ea s
  | .ldAtHLDecA => runLdAtHLDecA ea s
  | .ldAtHLImm n => runLdAtHLImm ea n s
  | .ldAAtHLDec => runLdAAtHLDec ea s
  | .ldBAtHL => runLdBAtHL ea s
  | .ldCAtHL => runLdCAtHL ea s
  | .ldDAtHL => runLdDAtHL ea s
  | .ldEAtHL => runLdEAtHL ea s
  | .ldHAtHL => runLdHAtHL ea s
  | .ldLAtHL => runLdLAtHL ea s
  | .ldAtHLB => runLdAtHLB ea s
  | .ldAtHLC => runLdAtHLC ea s
  | .ldAtHLD => runLdAtHLD ea s
  | .ldAtHLE => runLdAtHLE ea s
  | .ldAtHLH => runLdAtHLH ea s
  | .ldAtHLL => runLdAtHLL ea s
  | .ldAtHLA => runLdAtHLA ea s
  | .ldAAtHL => runLdAAtHL ea s
  | .ldhAtImmA _ => runLdhAtImmA ea s
  | .ldAtCA => runLdAtCA ea s
  | .ldAtImm16A _ => runLdAtImm16A ea s
  | .ldhAAtImm _ => runLdhAAtImm ea s
  | .ldAAtC => runLdAAtC ea s
  | .ldAAtImm16 _ => runLdAAtImm16 ea s
  | .ldAtImm16SP _ => runLdAtImm16SP ea s
  | .incAtHL => runIncAtHL ea s
  | .decAtHL => runDecAtHL ea s
  | .addAAtHL => runAddAAtHL ea s
  | .adcAAtHL => runAdcAAtHL ea s
  | .subAtHL => runSubAtHL ea s
  | .sbcAAtHL => runSbcAAtHL ea s
  | .andAtHL => runAndAtHL ea s
  | .xorAtHL => runXorAtHL ea s
  | .orAtHL => runOrAtHL ea s
  | .cpAtHL => runCpAtHL ea s
  | .rlcAtHL => runRlcAtHL ea s
  | .rrcAtHL => runRrcAtHL ea s
  | .rlAtHL => runRlAtHL ea s
  | .rrAtHL => runRrAtHL ea s
  | .slaAtHL => runSlaAtHL ea s
  | .sraAtHL => runSraAtHL ea s
  | .swapAtHL => runSwapAtHL ea s
  | .srlAtHL => runSrlAtHL ea s
  | .bit0AtHL => runBit0AtHL ea s
  | .bit1AtHL => runBit1AtHL ea s
  | .bit2AtHL => runBit2AtHL ea s
  | .bit3AtHL => runBit3AtHL ea s
  | .bit4AtHL => runBit4AtHL ea s
  | .bit5AtHL => runBit5AtHL ea s
  | .bit6AtHL => runBit6AtHL ea s
  | .bit7AtHL => runBit7AtHL ea s
  | .res0AtHL => runRes0AtHL ea s
  | .res1AtHL => runRes1AtHL ea s
  | .res2AtHL => runRes2AtHL ea s
  | .res3AtHL => runRes3AtHL ea s
  | .res4AtHL => runRes4AtHL ea s
  | .res5AtHL => runRes5AtHL ea s
  | .res6AtHL => runRes6AtHL ea s
  | .res7AtHL => runRes7AtHL ea s
  | .set0AtHL => runSet0AtHL ea s
  | .set1AtHL => runSet1AtHL ea s
  | .set2AtHL => runSet2AtHL ea s
  | .set3AtHL => runSet3AtHL ea s
  | .set4AtHL => runSet4AtHL ea s
  | .set5AtHL => runSet5AtHL ea s
  | .set6AtHL => runSet6AtHL ea s
  | .set7AtHL => runSet7AtHL ea s
  | .prefixCB op2 => runPrefixCB ea op2 s
  | i => exec i s

/-- CHARGE and EXECUTE for an instruction whose condition was `holds` at decode (R171, 70_reset_and_hazards.md R482). -/
def execIf (i : Instr) (holds : Bool) (s : State) : Outcome State Fault Refusal :=
  match i with
  | .jrNZDisp e => runJrNZDisp holds e s
  | .jrZDisp e => runJrZDisp holds e s
  | .jrNCDisp e => runJrNCDisp holds e s
  | .jrCDisp e => runJrCDisp holds e s
  | .retNZ => runRetNZ holds s
  | .jpNZImm16 nn => runJpNZImm16 holds nn s
  | .callNZImm16 nn => runCallNZImm16 holds nn s
  | .retZ => runRetZ holds s
  | .jpZImm16 nn => runJpZImm16 holds nn s
  | .callZImm16 nn => runCallZImm16 holds nn s
  | .retNC => runRetNC holds s
  | .jpNCImm16 nn => runJpNCImm16 holds nn s
  | .callNCImm16 nn => runCallNCImm16 holds nn s
  | .retC => runRetC holds s
  | .jpCImm16 nn => runJpCImm16 holds nn s
  | .callCImm16 nn => runCallCImm16 holds nn s
  | i => exec i s

/-- CHARGE and EXECUTE for a record. Its operand address and its condition are those of decode (R119, R133, R171). What is no
part of the record is read in the state it is executed in: the contents of a register operand, SP, pc, and the HL a post-effect moves
(DESIGN CHOICE, unsafe where the host changes the state between `lookup` and `execute`: log entry 21). -/
def execRecord (r : Instruction) (s : State) : Outcome State Fault Refusal :=
  match r.addr, r.holds with
  | some ea, _ => execAt r.instr ea s
  | none, some b => execIf r.instr b s
  | none, none => exec r.instr s

end Machine

end Sys2Proof
end

