-- ==== Sys2Proof/Machine/Interface.lean ====
section
/-! DEFINITION. The host interface (60_exceptions.md R440, R441): what the host may do between steps, and the boot sequence
it follows (70_reset_and_hazards.md R462). A host call that faults changes RUN and nothing else (R441, R423). The shape of
the calls is a DESIGN CHOICE, safe (log entry 12). No call looks at RUN: what a call that does not fault does while RUN is
Faulted is a DESIGN CHOICE, unsafe (log entry 19). -/

namespace Sys2Proof.Machine

open Host

/-- A value of the host interface, 8 or 16 bits wide (00_scope.md R13, Value). -/
inductive Value where
  | w8 (v : Byte)
  | w16 (v : Word)
  deriving DecidableEq, Repr

/-- The width of a value in bits. -/
def Value.width : Value → Nat
  | .w8 _ => 8
  | .w16 _ => 16

/-- The width of a register (R7). -/
def RegName.width : RegName → Nat
  | .a | .b | .c | .d | .e | .h | .l => 8
  | .af | .bc | .de | .hl | .sp | .pc => 16

/-- The answer of a host call that reads: the value, or the fault raised in the state. It does not look at RUN, so a state that
is Faulted is read as any other (DESIGN CHOICE, unsafe: log entry 19). -/
def answer {α : Type} (s : State) (r : Except Fault α) : Option α × State :=
  match r with
  | .ok v => (some v, s)
  | .error f => (none, s.raise f)

/-- The state after a host call that writes, or the fault raised in the state it was called on. It does not look at RUN, so a write
that does not fault has its effect on a state that is Faulted (DESIGN CHOICE, unsafe: log entry 19). -/
def commit (s : State) (r : Except Fault State) : State :=
  match r with
  | .ok t => t
  | .error f => s.raise f

/-- `read(addr, wide)`. -/
def hostRead (addr : Word) (wide : Bool) (s : State) : Option Value × State :=
  if wide then answer s ((memRead16 addr s).map .w16) else answer s ((busRead8 addr s).map .w8)

/-- `write(addr, v)` at v's width; a write of two bytes stores both or neither (R441). It stores whatever RUN is (DESIGN CHOICE,
unsafe on a Faulted state: log entry 19). -/
def hostWrite (addr : Word) (v : Value) (s : State) : State :=
  match v with
  | .w8 x => commit s (busWrite8 addr x s)
  | .w16 x => commit s (memWrite16 addr x s)

/-- `get(name)` (10_state.md R39), whatever RUN is (log entry 19). -/
def hostGet (n : RegName) (s : State) : Value :=
  match n with
  | .a => .w8 s.a
  | .b => .w8 s.b
  | .c => .w8 s.c
  | .d => .w8 s.d
  | .e => .w8 s.e
  | .h => .w8 s.h
  | .l => .w8 s.l
  | .af => .w16 s.af
  | .bc => .w16 s.bc
  | .de => .w16 s.de
  | .hl => .w16 s.hl
  | .sp => .w16 s.sp
  | .pc => .w16 s.pc

/-- A register written with a byte; a 16-bit register refuses it (R423). The `width` of the fault's info is that of the offered
value, in bits: 8 (DESIGN CHOICE, unsafe: log entry 18). -/
def setByteName (n : RegName) (v : Byte) (s : State) : State :=
  match n with
  | .a => s.setReg .a v
  | .b => s.setReg .b v
  | .c => s.setReg .c v
  | .d => s.setReg .d v
  | .e => s.setReg .e v
  | .h => s.setReg .h v
  | .l => s.setReg .l v
  | .af | .bc | .de | .hl | .sp | .pc => s.raise (.invalidOperandWidth n 8)

/-- A register written with a word; an 8-bit register refuses it (R423). The `width` of the fault's info is that of the offered
value, in bits: 16 (DESIGN CHOICE, unsafe: log entry 18). -/
def setWordName (n : RegName) (v : Word) (s : State) : State :=
  match n with
  | .af => s.setAF v
  | .bc => s.setBC v
  | .de => s.setDE v
  | .hl => s.setHL v
  | .sp => s.setSP v
  | .pc => s.setPC v
  | .a | .b | .c | .d | .e | .h | .l => s.raise (.invalidOperandWidth n 16)

/-- `set(name, v)` (10_state.md R39). It writes whatever RUN is (DESIGN CHOICE, unsafe on a Faulted state: log entry 19). -/
def hostSet (n : RegName) (v : Value) (s : State) : State :=
  match v with
  | .w8 x => setByteName n x s
  | .w16 x => setWordName n x s

/-- `lookup(opcode)`: the DECODE stage for the opcode byte at pc, its decode faults included (R422). -/
def lookupStage (op : Byte) (s : State) : Except Fault Instr :=
  match opClass op with
  | .unused => .error (.unusedOpcode op s.pc)
  | .unimplemented => .error (.unimplemented op s.pc)
  | .instruction => decodeRest op (fetchByte s)
  | .escape => decodeRest op (fetchByte s)

/-- `lookup(opcode)`: the record decode makes (R133), or its fault raised. -/
def hostLookup (op : Byte) (s : State) : Option Instruction × State :=
  answer s ((lookupStage op s).map fun i => record i s)

/-- `execute(I)` of a record `lookup` answered. It does not look at RUN (DESIGN CHOICE, unsafe on a Faulted state: log entry 4), and
what the record does not hold it reads in the state it is given (DESIGN CHOICE: log entry 21). -/
def hostExecute (r : Instruction) (s : State) : Outcome State Fault Refusal := execRecord r s

/-- `ime()`. The six calls on the latches read and write whatever RUN is (DESIGN CHOICE, unsafe on a Faulted state: log
entry 19). -/
def hostIme (s : State) : Bool := s.ime

/-- `ime_next()`, whatever RUN is (log entry 19). -/
def hostImeNext (s : State) : Bool := s.imeNext

/-- `set_ime`, whatever RUN is (log entry 19). -/
def hostSetIme (s : State) : State := s.setIme true

/-- `unset_ime`, whatever RUN is (log entry 19). -/
def hostUnsetIme (s : State) : State := s.setIme false

/-- `set_ime_next`, whatever RUN is (log entry 19). -/
def hostSetImeNext (s : State) : State := s.setImeNext true

/-- `unset_ime_next`, whatever RUN is (log entry 19). -/
def hostUnsetImeNext (s : State) : State := s.setImeNext false

/-- The host's loop body: `read` the byte at pc, `lookup` it, `execute` the result (R462). On a live state it is one step (R440).
It does not look at RUN: on a state that is Faulted, where no step runs (10_state.md R45), the three calls are made all the
same and the instruction has its effect (DESIGN CHOICE, unsafe on a Faulted state: log entry 22). -/
def hostStep (s : State) : Outcome State Fault Refusal :=
  match hostRead s.pc false s with
  | (some (.w8 op), s1) =>
    match hostLookup op s1 with
    | (some r, s2) => hostExecute r s2
    | (none, s2) => .next s2
  | (_, s1) => .next s1

/-- The ROM image written byte for byte from an address on, through `write` (R462). Where a byte's write faults, the bytes
after it are written all the same (DESIGN CHOICE, unsafe: log entry 19). The address wraps past 0xFFFF, so an image longer
than 65,536 bytes goes on from 0x0000 over its own first bytes (DESIGN CHOICE, unsafe: log entry 23). -/
def loadImage (a : Word) : List Byte → State → State
  | [], s => s
  | v :: vs, s => loadImage (a + 1) vs (hostWrite a (.w8 v) s)

/-- The boot sequence before the first step (R462): construct, load the image from 0x0000, set PC to ENTRY_PC. An
image within the ROM window raises no fault; a longer one may, and PC is set all the same (DESIGN CHOICE, unsafe: log entry
19); one longer than 65,536 bytes wraps (DESIGN CHOICE, unsafe: log entry 23). -/
def boot (cfg : Config) (image : List Byte) : State :=
  hostSet .pc (.w16 cfg.entryPc) (loadImage 0x0000 image { State.reset with cfg := cfg })

end Sys2Proof.Machine
end

