-- ==== Sys2Proof/Safety.lean ====
section
/-! DEFINITION. The terms claims use: a live state, an instruction that completes, the invariant of the storage, a safe run,
and the results of the instruction rules written in exact integer arithmetic. `exec` uses none of the latter. -/

namespace Sys2Proof

open Machine

/-- RUN is `Running`: a step can be taken (10_state.md R45). -/
def Live (s : State) : Prop := s.run = .running

/-- The instruction takes the state to `t` without a fault (60_exceptions.md R425: "Every step either completes with no fault
or raises exactly one fault"). -/
def Completes (i : Instr) (s t : State) : Prop := Live s ∧ exec i s = .next t ∧ Live t

/-- The storage is in canonical form, and lists only addresses that are storage under the parameters: never an address of the
IE cell, nor of the gap under `UNMAPPED_POLICY = Fault`, nor an echo alias (20_memory.md R71 to R77). -/
def StorageInv (s : State) : Prop := Memory.wf s.mem = true ∧ ∀ c ∈ s.mem, isStorage s.cfg c.1 = true

/-- `n` steps take `s` to `t`, each from a live state. -/
def StepsTo : Nat → State → State → Prop
  | 0, s, t => s = t
  | n + 1, s, t => ∃ u, step s = .next u ∧ StepsTo n u t

/-- A run of any length from a state never stops with a fault or a refusal: "no fault" as the premise of a claim about a run
(93_implementation_defined.md U10). -/
def SafeFrom (s : State) : Prop := ∀ n, ∃ t, StepsTo n s t ∧ Live t

/-! ### The results of the rules, in exact arithmetic -/

/-- The state after `Charge(n)` with n at least 1 (10_state.md R44): n cycles counted, a pending IME_NEXT promoted. -/
def charged (n : Nat) (s : State) : State :=
  { s with cycles := s.cycles + n, ime := s.ime || s.imeNext, imeNext := false }

/-- A and F after an 8-bit addition of `v` and a carry into A (40_alu_flags.md R161). -/
def added (v : Byte) (carry : Bool) (s : State) : State :=
  { s with
    a := BitVec.ofNat 8 ((s.a.toNat + v.toNat + carry.toNat) % 256)
    flagZ := decide ((s.a.toNat + v.toNat + carry.toNat) % 256 = 0)
    flagN := false
    flagH := decide (s.a.toNat % 16 + v.toNat % 16 + carry.toNat > 0x0F)
    flagC := decide (s.a.toNat + v.toNat + carry.toNat > 0xFF) }

/-- A and F after an 8-bit subtraction of `v` and a borrow from A (R162). -/
def subtracted (v : Byte) (borrow : Bool) (s : State) : State :=
  { s with
    a := BitVec.ofNat 8 ((256 + s.a.toNat - v.toNat - borrow.toNat) % 256)
    flagZ := decide (s.a.toNat % 256 = (v.toNat + borrow.toNat) % 256)
    flagN := true
    flagH := decide (s.a.toNat % 16 < v.toNat % 16 + borrow.toNat)
    flagC := decide (s.a.toNat < v.toNat + borrow.toNat) }

/-- F after a comparison of A with `v` (43_alu8.md R291): the flags of the subtraction, and A kept. -/
def compared (v : Byte) (s : State) : State := { subtracted v false s with a := s.a }

/-- A and F after a logic operation whose result is `r` and whose half-carry constant is `half` (R282 to R290). -/
def logicResult (r : Byte) (half : Bool) (s : State) : State :=
  { s with a := r, flagZ := decide (r.toNat = 0), flagN := false, flagH := half, flagC := false }

/-- What DAA adds to A, or subtracts from A after a subtraction (40_alu_flags.md R170). -/
def daaCorrection (a : Byte) (n h c : Bool) : Nat :=
  (if c || (!n && decide (a.toNat > 0x99)) then 0x60 else 0) +
    (if h || (!n && decide (a.toNat % 16 > 0x09)) then 0x06 else 0)

/-- The value of two decimal digits in a byte (00_scope.md R13, BCD correction). -/
def bcdValue (v : Byte) : Nat := 10 * (v.toNat / 16) + v.toNat % 16

/-- Both nibbles of a byte are decimal digits. -/
def isBcd (v : Byte) : Prop := v.toNat / 16 ≤ 9 ∧ v.toNat % 16 ≤ 9

/-- The number a rotate, shift or swap makes of a byte, and the bit C is written with (R168, R169). -/
def shifted (op : RotOp) (v : Byte) (carry : Bool) : Nat × Bool :=
  let n := v.toNat
  match op with
  | .rlc => (2 * n % 256 + n / 128, decide (n ≥ 128))
  | .rrc => (n / 2 + 128 * (n % 2), decide (n % 2 = 1))
  | .rl => (2 * n % 256 + carry.toNat, decide (n ≥ 128))
  | .rr => (n / 2 + 128 * carry.toNat, decide (n % 2 = 1))
  | .sla => (2 * n % 256, decide (n ≥ 128))
  | .sra => (n / 2 + 128 * (n / 128), decide (n % 2 = 1))
  | .swap => (16 * (n % 16) + n / 16, false)
  | .srl => (n / 2, decide (n % 2 = 1))

/-- F after a rotate, shift or swap of the escape table (45_rotate_shift_bit.md R334 to R349). -/
def shiftFlags (o : Nat × Bool) (s : State) : State :=
  { s with flagZ := decide (o.1 = 0), flagN := false, flagH := false, flagC := o.2 }

/-- Bit b of a byte, as a number. -/
def bitOf (b : Idx3) (v : Byte) : Nat := v.toNat / 2 ^ b.toNat % 2

/-- The signed value of a displacement (40_alu_flags.md R172). -/
def signedDisp (e : Byte) : Int := if e.toNat < 128 then e.toNat else (e.toNat : Int) - 256

/-- Two bus addresses share storage: they are one address, or echo RAM and its work RAM under `ECHO_MIRROR`
(20_memory.md R75). -/
def sameStorage (cfg : Config) (a b : Word) : Prop :=
  a = b ∨ (cfg.echoMirror = true ∧
    ((0xE000 ≤ b.toNat ∧ b.toNat ≤ 0xFDFF ∧ a.toNat + 0x2000 = b.toNat) ∨
     (0xE000 ≤ a.toNat ∧ a.toNat ≤ 0xFDFF ∧ b.toNat + 0x2000 = a.toNat)))

/-- An access to an address does not fault (R76, R424). -/
def Mapped (cfg : Config) (a : Word) : Prop :=
  cfg.unmappedPolicy = .storage ∨ a.toNat < 0xFEA0 ∨ 0xFEFF < a.toNat

/-- What a flag may be after an instruction, given its character of the table's flag string (R174). -/
def FlagEffect.admits (x : FlagEffect) (before after : Bool) : Prop :=
  match x with
  | .keep => after = before
  | .zero => after = false
  | .one => after = true
  | .result => True

end Sys2Proof
end

