-- ==== Sys2Proof/Certificates/Slice0/Obligations.lean ====
section
/-! DEFINITION. The statements for the provers. Each docstring names the rules of spec/ the statement formalises. Where a
statement quantifies over a row family through a builder of Decode.lean (`ldInstr`, `aluInstr`, ...), it covers every
constructor that builder names. `charged n s` is the state after `Charge(n)`. -/

open Sys2Proof Sys2Proof.Machine Host

/-! ### Reset, the invariant, decode and the step -/

/-- The reset state (10_state.md R47, 70_reset_and_hazards.md R460): every register, flag, latch and counter is zero, RUN is
Running, and every address of the bus that can be read reads 0x00. The parameters are at their defaults (00_scope.md R8,
log entry 1), and IME, IME_NEXT, CYCLES and RUN are the spec's own decisions D22 and D30. -/
def Obligations.ResetState : Prop :=
  let s := State.reset
  (∀ r, s.getReg r = 0x00) ∧ s.flagZ = false ∧ s.flagN = false ∧ s.flagH = false ∧ s.flagC = false ∧
  s.sp = 0x0000 ∧ s.pc = 0x0000 ∧ s.ime = false ∧ s.imeNext = false ∧ s.cycles = 0 ∧ s.run = .running ∧ s.ie = false ∧
  (∀ a, Mapped s.cfg a → peek8 a s = some 0x00) ∧
  s.cfg = ⟨.next, true, .fault, 0x0100⟩

/-- The storage invariant holds at reset (10_state.md R47, 20_memory.md R71). -/
def Obligations.ResetMeetsInv : Prop := StorageInv State.reset

/-- From every state with the storage invariant, a step gives a state with it, and no step changes a parameter: the memory
keeps its canonical form and never lists an address of the IE cell, of the gap under `UNMAPPED_POLICY = Fault`, or an echo
alias (20_memory.md R71, R75 to R77). -/
def Obligations.StepKeepsInv : Prop :=
  ∀ s t : State, StorageInv s → step s = .next t → StorageInv t ∧ t.cfg = s.cfg

/-- Decode undoes encode: the bytes of a well-formed instruction, followed by any bytes at all, decode to that instruction
with every operand, and to the bytes that follow (30_encoding.md R110 to R125). -/
def Obligations.DecodeUndoesEncode : Prop :=
  ∀ (i : Instr) (rest : List Byte), i.wellFormed = true → decode (encode i ++ rest) = .ok (i, rest)

/-- Encode undoes decode, and decode is total (30_encoding.md R129): any three bytes decode to a well-formed instruction whose
encoding is the bytes decode read. -/
def Obligations.DecodeIsTotal : Prop :=
  ∀ (b0 b1 b2 : Byte) (rest : List Byte), ∃ i used,
    decode (b0 :: b1 :: b2 :: rest) = .ok (i, (b0 :: b1 :: b2 :: rest).drop used) ∧
    encode i = (b0 :: b1 :: b2 :: rest).take used ∧ 1 ≤ used ∧ used ≤ 3 ∧ i.wellFormed = true

/-- A few words written out from the encoding lines of the rules, one or more of every family: LD B,C; LD (HL),n; LDH (n),A;
LD DE,nn; PUSH AF; SUB (HL); XOR n; INC (HL); ADD HL,SP; RLCA; SWAP A; BIT 7,H; RES 0,(HL); SET 3,A; JP NC,nn; JR NZ,e;
CALL nn; RETI; RST 0x28; EI; HALT (R200, R204, R212, R242, R247, R277, R287, R295, R310, R330, R346, R350, R353, R354,
R371, R375, R376, R380, R381, R402, R403). -/
def Obligations.DecodedWords : Prop :=
  decode [0b01000001] = .ok (.ldBC, []) ∧
  decode [0b00110110, 0x77] = .ok (.ldAtHLImm 0x77, []) ∧
  decode [0b11100000, 0x44] = .ok (.ldhAtImmA 0x44, []) ∧
  decode [0b00010001, 0x34, 0x12] = .ok (.ldDEImm16 0x1234, []) ∧
  decode [0b11110101] = .ok (.pushAF, []) ∧
  decode [0b10010110] = .ok (.subAtHL, []) ∧
  decode [0b11101110, 0x0F] = .ok (.xorImm 0x0F, []) ∧
  decode [0b00110100] = .ok (.incAtHL, []) ∧
  decode [0b00111001] = .ok (.addHLSP, []) ∧
  decode [0b00000111] = .ok (.rlca, []) ∧
  decode [0b11001011, 0b00110111] = .ok (.swapA, []) ∧
  decode [0b11001011, 0b01111100] = .ok (.bit7H, []) ∧
  decode [0b11001011, 0b10000110] = .ok (.res0AtHL, []) ∧
  decode [0b11001011, 0b11011111] = .ok (.set3A, []) ∧
  decode [0b11010010, 0x50, 0x01] = .ok (.jpNCImm16 0x0150, []) ∧
  decode [0b00100000, 0xFB] = .ok (.jrNZDisp 0xFB, []) ∧
  decode [0b11001101, 0x00, 0x20] = .ok (.callImm16 0x2000, []) ∧
  decode [0b11011001] = .ok (.reti, []) ∧
  decode [0b11101111] = .ok (.rst28, []) ∧
  decode [0b11111011] = .ok (.ei, []) ∧
  decode [0b01110110] = .ok (.halt, [])

/-- A step runs the decoded instruction (30_encoding.md R150): while RUN is Running and the bytes decode reads stand on the
bus from pc on, addresses wrapping, the step is `exec` of the instruction, and nothing else. -/
def Obligations.StepRunsDecoded : Prop :=
  ∀ (s : State) (bs rest : List Byte) (i : Instr),
    Live s → decode bs = .ok (i, rest) →
    (∀ k v, k < bs.length - rest.length → bs[k]? = some v → peek8 (s.pc + BitVec.ofNat 16 k) s = some v) →
    step s = exec i s

/-- The fetches of a step and their order (60_exceptions.md R426 items 1 to 4): the opcode fetch first; then, for the rows
that have one, the byte at pc + 1; then, for the rows of three bytes, the byte at pc + 2. The first that the bus refuses is
the step's fault. -/
def Obligations.FetchFaultsInOrder : Prop :=
  ∀ s : State, Live s →
    (peek8 s.pc s = none → step s = .next { s with run := .faulted (.unmappedAccess s.pc .read s.pc) }) ∧
    (∀ op, peek8 s.pc s = some op →
      (2 ≤ (primaryEntry op).bytes → peek8 (s.pc + 1) s = none →
        step s = .next { s with run := .faulted (.unmappedAccess (s.pc + 1) .read s.pc) }) ∧
      (3 ≤ (primaryEntry op).bytes → (∃ v, peek8 (s.pc + 1) s = some v) → peek8 (s.pc + 2) s = none →
        step s = .next { s with run := .faulted (.unmappedAccess (s.pc + 2) .read s.pc) }))

/-- The rows that fault at decode (30_encoding.md R127, R128; 60_exceptions.md R422): STOP (R404), HALT (R403), ADD SP,e (R313)
and the eleven unused opcodes (R405) raise their fault in every live state, as rows and as bytes at pc, whatever bytes
follow and even where the next byte cannot be read; nothing but RUN changes. -/
def Obligations.StoppingRows : Prop :=
  ∀ s : State, Live s →
    (∀ op, peek8 s.pc s = some op →
      (op ∈ ([0xD3, 0xDB, 0xDD, 0xE3, 0xE4, 0xEB, 0xEC, 0xED, 0xF4, 0xFC, 0xFD] : List Byte) →
        step s = .next { s with run := .faulted (.unusedOpcode op s.pc) }) ∧
      (op ∈ ([0x10, 0x76, 0xE8] : List Byte) →
        step s = .next { s with run := .faulted (.unimplemented op s.pc) })) ∧
    exec .halt s = .next { s with run := .faulted (.unimplemented 0x76 s.pc) } ∧
    exec .stop s = .next { s with run := .faulted (.unimplemented 0x10 s.pc) } ∧
    exec .addSPDisp s = .next { s with run := .faulted (.unimplemented 0xE8 s.pc) } ∧
    exec .unusedD3 s = .next { s with run := .faulted (.unusedOpcode 0xD3 s.pc) } ∧
    exec .unusedDB s = .next { s with run := .faulted (.unusedOpcode 0xDB s.pc) } ∧
    exec .unusedDD s = .next { s with run := .faulted (.unusedOpcode 0xDD s.pc) } ∧
    exec .unusedE3 s = .next { s with run := .faulted (.unusedOpcode 0xE3 s.pc) } ∧
    exec .unusedE4 s = .next { s with run := .faulted (.unusedOpcode 0xE4 s.pc) } ∧
    exec .unusedEB s = .next { s with run := .faulted (.unusedOpcode 0xEB s.pc) } ∧
    exec .unusedEC s = .next { s with run := .faulted (.unusedOpcode 0xEC s.pc) } ∧
    exec .unusedED s = .next { s with run := .faulted (.unusedOpcode 0xED s.pc) } ∧
    exec .unusedF4 s = .next { s with run := .faulted (.unusedOpcode 0xF4 s.pc) } ∧
    exec .unusedFC s = .next { s with run := .faulted (.unusedOpcode 0xFC s.pc) } ∧
    exec .unusedFD s = .next { s with run := .faulted (.unusedOpcode 0xFD s.pc) }

/-- The escape byte (47_system.md R406, 30_encoding.md R125): 0xCB and any second byte decode to the escape table's row for
that byte, and the escape byte's own row has exactly that row's effect, flags, faults and cycles; with the byte at HL
mapped where the second byte names (HL), it completes, two bytes on. Two things here are the model's choice: that the escape
byte's row is a constructor, `prefixCB op2`, which decode never answers (log entry 9), and that a 0xCB at 0xFFFF has its
`op2` at 0x0000, against a corner case of R406 (log entry 20); the first clause is about a list of bytes, wherever it stands. -/
def Obligations.EscapeByte : Prop :=
  (∀ (op2 : Byte) (rest : List Byte), decode (0xCB :: op2 :: rest) = .ok (escapeTable op2, rest)) ∧
  (∀ (op2 : Byte) (s : State), exec (.prefixCB op2) s = exec (escapeTable op2) s) ∧
  (∀ (op2 : Byte) (s : State), (op2.toNat % 8 = 6 → Mapped s.cfg s.hl) →
    ∃ t, exec (.prefixCB op2) s = .next t ∧ t.run = s.run ∧ t.pc = s.pc + 2)

/-! ### Faults -/

/-- A fault is precise and atomic, and Faulted is absorbing (60_exceptions.md R420, R421, R425; 10_state.md R45): a step of a
live state answers a next state, which is live, or is the state it started from with RUN set to exactly one fault, of a code
other than InvalidOperandWidth; no step of a Faulted state runs. -/
def Obligations.FaultsAreAtomic : Prop :=
  (∀ s : State, Live s → ∃ t, step s = .next t ∧
    (Live t ∨ ∃ f, t = { s with run := .faulted f } ∧ f.code ≠ 4)) ∧
  (∀ (s : State) (f : Fault), s.run = .faulted f → step s = .fault f)

/-- An `UnmappedAccess` of a step is a real one (60_exceptions.md R424): the policy is Fault, the address lies in 0xFEA0 to
0xFEFF, and the pc recorded is the pc at the start of the step. -/
def Obligations.UnmappedFaultIsReal : Prop :=
  ∀ (s t : State) (a p : Word) (k : AccessKind), Live s → step s = .next t →
    t.run = .faulted (.unmappedAccess a k p) →
    s.cfg.unmappedPolicy = .fault ∧ 0xFEA0 ≤ a.toNat ∧ a.toNat ≤ 0xFEFF ∧ p = s.pc

/-- Under `UNMAPPED_POLICY = Storage` no instruction of the 241 and no escape row faults, whatever its operands: arithmetic
never faults, and no address does (60_exceptions.md R428, 20_memory.md R76, 40_alu_flags.md R160). -/
def Obligations.NothingElseFaults : Prop :=
  ∀ (s t : State) (op : Byte), Live s → s.cfg.unmappedPolicy = .storage → peek8 s.pc s = some op →
    (opClass op = .instruction ∨ opClass op = .escape) → step s = .next t → Live t

/-- When the body of an instruction faults (60_exceptions.md R424, R426 item 5): for every instruction but the rows that fault at
decode, in every live state, the first access of its body that the bus refuses, loads before stores in the order of its rule,
is the step's fault, and nothing but RUN changes, not even a byte stored before it; where the bus refuses none, the
instruction completes. -/
def Obligations.BodyFaultsExactly : Prop :=
  ∀ (i : Instr) (s : State) (n : Nat), Live s → i.core.cost s = some n →
    match i.core.firstRefused s with
    | some (a, k) => exec i s = .next { s with run := .faulted (.unmappedAccess a k s.pc) }
    | none => ∃ t, exec i s = .next t ∧ Live t

/-! ### Charge, the latch, pc and the frames -/

/-- `Charge(n)` (10_state.md R44): charges add up, n ticks count n cycles, and any charge of one tick or more promotes a
pending IME_NEXT into IME, clears it and changes no other field, whatever n is (70_reset_and_hazards.md R481). -/
def Obligations.ChargePromotesLatch : Prop :=
  ∀ (m n : Nat) (s : State),
    (s.charge m).charge n = s.charge (m + n) ∧ (s.charge n).cycles = s.cycles + n ∧
    { s.charge (n + 1) with cycles := s.cycles } = { s with ime := s.ime || s.imeNext, imeNext := false }

/-- The cost of a step (10_state.md R44, 70_reset_and_hazards.md R482): an instruction that completes charges its row's
`cycles`, or `cycles_not_taken` where it is conditional and its condition fails on the state it starts from, and every such
cost is at least 4; and no step at all lowers CYCLES. -/
def Obligations.CompletedCost : Prop :=
  (∀ (i : Instr) (s t : State), Completes i s t →
    ∃ n, i.core.cost s = some n ∧ t.cycles = s.cycles + n ∧ 4 ≤ n) ∧
  (∀ s t : State, step s = .next t → s.cycles ≤ t.cycles)

/-- The interrupt latches after an instruction that completes (10_state.md R42, R43): IME is what it was with a pending
IME_NEXT promoted, but DI leaves it 0 and RETI leaves it 1; IME_NEXT is 0, but EI leaves it 1. -/
def Obligations.LatchesAfterCompletion : Prop :=
  ∀ (i : Instr) (s t : State), Completes i s t →
    t.ime = (if i = .di then false else if i = .reti then true else s.ime || s.imeNext) ∧
    t.imeNext = decide (i = .ei)

/-- EI's delay (70_reset_and_hazards.md R472): from a state with no promotion pending, EI leaves IME as it was; after the
instruction that follows, IME is 1 unless that instruction is DI, and a fault there leaves IME unchanged and IME_NEXT 1. -/
def Obligations.EiTakesEffectAfterNext : Prop :=
  ∀ s t u : State, Live s → s.imeNext = false → exec .ei s = .next t → step t = .next u →
    t.ime = s.ime ∧ t.imeNext = true ∧
    (Live u → u.ime = true ∨ peek8 t.pc t = some 0xF3 ∧ u.ime = false) ∧
    (¬ Live u → u.ime = s.ime ∧ u.imeNext = true)

/-- The program counter after an instruction that completes without writing a target (10_state.md R40, R41): pc has moved by
the row's length, modulo 2^16. -/
def Obligations.PcAdvancesByLength : Prop :=
  ∀ (i : Instr) (s t : State), Completes i s t → i.core.transfers s = false →
    t.pc = s.pc + BitVec.ofNat 16 i.core.row.length

/-- The flag frame (10_state.md R34, 40_alu_flags.md R174): each flag after an instruction that completes is as the row's flag
string says: kept where it has `-`, 0 or 1 where it has a constant. -/
def Obligations.FlagFrame : Prop :=
  ∀ (i : Instr) (s t : State), Completes i s t →
    i.core.row.z.admits s.flagZ t.flagZ ∧ i.core.row.n.admits s.flagN t.flagN ∧
    i.core.row.h.admits s.flagH t.flagH ∧ i.core.row.c.admits s.flagC t.flagC

/-- The register frame, for every instruction (10_state.md R49): where `exec` gives a next state, every 8-bit register the
instruction's rule does not write, and SP where the rule does not write it, holds what it held. -/
def Obligations.RegisterFrame : Prop :=
  ∀ (i : Instr) (s t : State), exec i s = .next t →
    (∀ r, r ∉ i.core.regsWritten → t.getReg r = s.getReg r) ∧
    (i.core.writesSP = false → t.sp = s.sp)

/-- The memory frame, for every instruction (20_memory.md R84, R85): where `exec` gives a next state, every address that
shares no storage with an address the instruction stores to reads as before; for an instruction that stores nothing, every
address does. -/
def Obligations.MemoryFrame : Prop :=
  ∀ (i : Instr) (s t : State), exec i s = .next t →
    ∀ a, (∀ b ∈ i.core.storeAddrs s, ¬ sameStorage s.cfg a b) → peek8 a t = peek8 a s

/-- Nothing in the block reads IME or CYCLES (10_state.md R42, R49; 60_exceptions.md R430): two states that differ only there
step alike, to states that differ only there. -/
def Obligations.ImeAndCyclesAreNotRead : Prop :=
  ∀ (s t : State) (b : Bool) (n : Nat), step s = .next t →
    ∃ b' n', step { s with ime := b, cycles := n } = .next { t with ime := b', cycles := n' }

/-! ### Memory -/

/-- The region map (20_memory.md R71, R72): each address lies in exactly the region of its range, at its offset there. -/
def Obligations.RegionMap : Prop :=
  ∀ a : Word,
    (a.toNat ≤ 0x3FFF → Machine.translate a = (.rom0, a.toNat)) ∧
    (0x4000 ≤ a.toNat → a.toNat ≤ 0x7FFF → Machine.translate a = (.rom1, a.toNat - 0x4000)) ∧
    (0x8000 ≤ a.toNat → a.toNat ≤ 0x9FFF → Machine.translate a = (.vram, a.toNat - 0x8000)) ∧
    (0xA000 ≤ a.toNat → a.toNat ≤ 0xBFFF → Machine.translate a = (.eram, a.toNat - 0xA000)) ∧
    (0xC000 ≤ a.toNat → a.toNat ≤ 0xCFFF → Machine.translate a = (.wram0, a.toNat - 0xC000)) ∧
    (0xD000 ≤ a.toNat → a.toNat ≤ 0xDFFF → Machine.translate a = (.wram1, a.toNat - 0xD000)) ∧
    (0xE000 ≤ a.toNat → a.toNat ≤ 0xFDFF → Machine.translate a = (.echo, a.toNat - 0xE000)) ∧
    (0xFE00 ≤ a.toNat → a.toNat ≤ 0xFE9F → Machine.translate a = (.oam, a.toNat - 0xFE00)) ∧
    (0xFEA0 ≤ a.toNat → a.toNat ≤ 0xFEFF → Machine.translate a = (.unmapped, a.toNat - 0xFEA0)) ∧
    (0xFF00 ≤ a.toNat → a.toNat ≤ 0xFF7F → Machine.translate a = (.io, a.toNat - 0xFF00)) ∧
    (0xFF80 ≤ a.toNat → a.toNat ≤ 0xFFFE → Machine.translate a = (.hram, a.toNat - 0xFF80)) ∧
    (a.toNat = 0xFFFF → Machine.translate a = (.ie, 0))

/-- Which accesses fault (20_memory.md R76): a byte can be read, and a byte can be stored, exactly at the mapped addresses. -/
def Obligations.GapPolicy : Prop :=
  ∀ (a : Word) (v : Byte) (s : State),
    ((∃ x, peek8 a s = some x) ↔ Mapped s.cfg a) ∧ ((∃ t, poke8 a v s = some t) ↔ Mapped s.cfg a)

/-- A byte stored is the byte read back, at every mapped address but the IE cell, which keeps whether it was nonzero
(20_memory.md R73, R74, R77); and no address that shares no storage with it changes. -/
def Obligations.StoreThenLoad : Prop :=
  ∀ (a : Word) (v : Byte) (s t : State), StorageInv s → poke8 a v s = some t →
    peek8 a t = some (if a = 0xFFFF then (if v = 0 then 0x00 else 0x01) else v) ∧
    (∀ b, ¬ sameStorage s.cfg b a → peek8 b t = peek8 b s)

/-- Echo RAM (20_memory.md R75): under ECHO_MIRROR each of its addresses reads and stores the work-RAM byte 0x2000 below; with
it off, a store to echo RAM leaves work RAM, and the reverse. -/
def Obligations.EchoMirror : Prop :=
  ∀ (w e : Word) (v : Byte) (s : State), 0xE000 ≤ e.toNat → e.toNat ≤ 0xFDFF → w.toNat + 0x2000 = e.toNat →
    (s.cfg.echoMirror = true → peek8 e s = peek8 w s ∧ poke8 e v s = poke8 w v s) ∧
    (s.cfg.echoMirror = false → ∀ t, (poke8 e v s = some t → peek8 w t = peek8 w s) ∧
      (poke8 w v s = some t → peek8 e t = peek8 e s))

/-- Two-byte accesses (20_memory.md R80 to R82): the host's wide read is the byte at a, low, and the byte at a + 1, high, the
address wrapping; a wide write that is accepted reads back, wide and byte by byte, unless a byte falls on the IE cell. That a
read answers on a Faulted state too is the model's choice (log entry 19). The last words of R82 say that the round trip also
breaks where the bytes cross a mirror alias; it holds there by R75, R80 and R81, as 95_test_vectors.md Q5 says (DEDUCED: log
entry 24). -/
def Obligations.WideAccessesAreLittleEndian : Prop :=
  (∀ (a : Word) (lo hi : Byte) (s : State), peek8 a s = some lo → peek8 (a + 1) s = some hi →
    ∃ v : Word, hostRead a true s = (some (.w16 v), s) ∧ v.toNat = hi.toNat * 256 + lo.toNat) ∧
  (∀ (a v : Word) (s : State), Live s → StorageInv s → Mapped s.cfg a → Mapped s.cfg (a + 1) → a ≠ 0xFFFF → a + 1 ≠ 0xFFFF →
    hostRead a true (hostWrite a (.w16 v) s) = (some (.w16 v), hostWrite a (.w16 v) s) ∧
    hostRead a false (hostWrite a (.w16 v) s) =
      (some (.w8 (BitVec.ofNat 8 (v.toNat % 256))), hostWrite a (.w16 v) s) ∧
    hostRead (a + 1) false (hostWrite a (.w16 v) s) =
      (some (.w8 (BitVec.ofNat 8 (v.toNat / 256))), hostWrite a (.w16 v) s))

/-! ### Registers and the host interface -/

/-- The pair views (10_state.md R32, R36): a pair reads as its first register, high, and its second, low; AF's low byte is
the four flags in bits 7 to 4 and zero below. -/
def Obligations.PairViews : Prop :=
  ∀ s : State,
    s.bc.toNat = 256 * s.b.toNat + s.c.toNat ∧ s.de.toNat = 256 * s.d.toNat + s.e.toNat ∧
    s.hl.toNat = 256 * s.h.toNat + s.l.toNat ∧
    s.af.toNat = 256 * s.a.toNat + 128 * s.flagZ.toNat + 64 * s.flagN.toNat + 32 * s.flagH.toNat + 16 * s.flagC.toNat

/-- Register access by the host (10_state.md R37, R38, R39, 60_exceptions.md R423): a `set` of the register's width reads
back by `get`, AF without its low nibble; a `set` of the other width raises InvalidOperandWidth and changes nothing else.
That the width recorded is the offered value's, in bits, is the model's choice (log entry 18), and so is that a `set` and a
`get` act on a Faulted state too (log entry 19). -/
def Obligations.HostSetThenGet : Prop :=
  (∀ (n : RegName) (v : Byte) (s : State), n.width = 8 → hostGet n (hostSet n (.w8 v) s) = .w8 v) ∧
  (∀ (n : RegName) (v : Word) (s : State), n.width = 16 →
    hostGet n (hostSet n (.w16 v) s) = .w16 (if n = .af then v &&& 0xFFF0 else v)) ∧
  (∀ (n : RegName) (v : Value) (s : State), Live s → v.width ≠ n.width →
    hostSet n v s = { s with run := .faulted (.invalidOperandWidth n v.width) })

/-- Host memory access (60_exceptions.md R441, 20_memory.md R85): an access to the gap under `UNMAPPED_POLICY = Fault` sets RUN
and changes nothing else, a write of two bytes that crosses into it stores neither, and a read of a mapped byte changes
nothing. -/
def Obligations.HostAccessIsAtomic : Prop :=
  ∀ (a : Word) (s : State), Live s →
    (∀ x, peek8 a s = some x → hostRead a false s = (some (.w8 x), s)) ∧
    (peek8 a s = none → ∀ v,
      hostRead a false s = (none, { s with run := .faulted (.unmappedAccess a .read s.pc) }) ∧
      hostWrite a (.w8 v) s = { s with run := .faulted (.unmappedAccess a .write s.pc) }) ∧
    (peek8 a s ≠ none → peek8 (a + 1) s = none → ∀ v,
      hostWrite a (.w16 v) s = { s with run := .faulted (.unmappedAccess (a + 1) .write s.pc) })

/-- The host's boot sequence and loop (70_reset_and_hazards.md R462; 60_exceptions.md R440, last sentences): with an image that
fits the ROM window, the state before the first step has the image from 0x0000 on and 0x00 elsewhere, PC at ENTRY_PC, and
every other register as at reset; and `lookup` of the byte `read` at pc followed by `execute` of its result is one step.
The record `lookup` answers (30_encoding.md R133, R119; 40_alu_flags.md R171), whatever state `t` it is executed in: `lookup` changes
nothing; the record's length is that of the encoding; `execute` charges the record's cost, or its second cost where the
condition failed at `lookup`; the post-effect moves HL by one; an operand is read or stored at the address of `lookup`, even
where HL, BC or DE has changed since; and a conditional instruction branches as its condition stood at `lookup`. That HL
and the register operands are those of `t` is the model's choice (log entry 21). -/
def Obligations.HostBootAndLoop : Prop :=
  (∀ (cfg : Config) (image : List Byte), image.length ≤ 0x8000 →
    let s := boot cfg image
    s.pc = cfg.entryPc ∧ s.cfg = cfg ∧ Live s ∧ StorageInv s ∧ (∀ r, s.getReg r = 0x00) ∧ s.sp = 0x0000 ∧ s.fByte = 0x00 ∧
    s.ime = false ∧ s.imeNext = false ∧ s.cycles = 0 ∧
    (∀ a : Word, Mapped cfg a → peek8 a s = some (image.getD a.toNat 0x00))) ∧
  (∀ s : State, Live s → hostStep s = step s) ∧
  (∀ (op : Byte) (r : Instruction) (s s' t : State), hostLookup op s = (some r, s') →
    s' = s ∧ r.length = (encode r.instr).length ∧
    (∀ u, hostExecute r t = .next u → Live t → Live u →
      (∃ n, (if r.holds = some false then r.cyclesNotTaken else r.cycles) = some n ∧ u.cycles = t.cycles + n) ∧
      (r.post = some .increment → u.hl = t.hl + 1) ∧ (r.post = some .decrement → u.hl = t.hl - 1)) ∧
    (∀ a, r.addr = some a → Live t → ¬ Mapped t.cfg a →
      ∃ k, hostExecute r t = .next { t with run := .faulted (.unmappedAccess a k t.pc) }) ∧
    (∀ dst v, r.instr = ldInstr (.reg dst) .atHL → peek8 s.hl t = some v →
      hostExecute r t = .next (((charged 8 t).setReg dst v).setPC (t.pc + 1))) ∧
    (∀ src u, r.instr = ldInstr .atHL (.reg src) → poke8 s.hl (t.getReg src) (charged 8 t) = some u →
      hostExecute r t = .next (u.setPC (t.pc + 1))) ∧
    (∀ v, r.instr = .ldAAtBC → peek8 s.bc t = some v → hostExecute r t = .next { charged 8 t with a := v, pc := t.pc + 1 }) ∧
    (∀ v, r.instr = .ldAAtDE → peek8 s.de t = some v → hostExecute r t = .next { charged 8 t with a := v, pc := t.pc + 1 }) ∧
    (∀ cc nn, r.instr = jpCcInstr cc nn → hostExecute r t =
      .next (if s.cond cc then { charged 16 t with pc := nn } else { charged 12 t with pc := t.pc + 3 })) ∧
    (∀ cc, r.instr = retCcInstr cc → s.cond cc = false → hostExecute r t = .next { charged 8 t with pc := t.pc + 1 }))

/-! ### 8-bit loads -/

/-- LD r,r', LD r,(HL) and LD r,n (R200, R201, R203): encoding, result, pc and cycles. -/
def Obligations.LoadRegister : Prop :=
  (∀ (dst r : Reg8) (s : State),
    encode (ldInstr (.reg dst) (.reg r)) = [BitVec.ofNat 8 (0x40 + 8 * (R8.reg dst).code + (R8.reg r).code)] ∧
    exec (ldInstr (.reg dst) (.reg r)) s = .next (((charged 4 s).setReg dst (s.getReg r)).setPC (s.pc + 1))) ∧
  (∀ (dst : Reg8) (s : State) (v : Byte), encode (ldInstr (.reg dst) .atHL) = [BitVec.ofNat 8 (0x46 + 8 * (R8.reg dst).code)] ∧
    (peek8 s.hl s = some v →
      exec (ldInstr (.reg dst) .atHL) s = .next (((charged 8 s).setReg dst v).setPC (s.pc + 1)))) ∧
  (∀ (dst : Reg8) (n : Byte) (s : State), encode (ldImmInstr (.reg dst) n) = [BitVec.ofNat 8 (0x06 + 8 * (R8.reg dst).code), n] ∧
    exec (ldImmInstr (.reg dst) n) s = .next (((charged 8 s).setReg dst n).setPC (s.pc + 2)))

/-- LD (HL),r and LD (HL),n (R202, R204): encoding, the byte stored at HL, pc and cycles. -/
def Obligations.StoreThroughHL : Prop :=
  (∀ (r : Reg8) (s t : State), encode (ldInstr .atHL (.reg r)) = [BitVec.ofNat 8 (0x70 + (R8.reg r).code)] ∧
    (poke8 s.hl (s.getReg r) (charged 8 s) = some t →
      exec (ldInstr .atHL (.reg r)) s = .next (t.setPC (s.pc + 1)))) ∧
  (∀ (n : Byte) (s t : State), encode (.ldAtHLImm n) = [0x36, n] ∧
    (poke8 s.hl n (charged 12 s) = some t → exec (.ldAtHLImm n) s = .next (t.setPC (s.pc + 2))))

/-- The loads of A (R205, R206, R209, R211, R213): from BC, DE, nn, 0xFF00 + n and 0xFF00 + C. -/
def Obligations.LoadAccumulator : Prop :=
  ∀ (s : State) (v n : Byte) (nn : Word),
    encode .ldAAtBC = [0x0A] ∧ encode .ldAAtDE = [0x1A] ∧ encode (.ldAAtImm16 nn) = [0xFA, lo8 nn, hi8 nn] ∧
    encode (.ldhAAtImm n) = [0xF0, n] ∧ encode .ldAAtC = [0xF2] ∧
    (peek8 s.bc s = some v → exec .ldAAtBC s = .next { charged 8 s with a := v, pc := s.pc + 1 }) ∧
    (peek8 s.de s = some v → exec .ldAAtDE s = .next { charged 8 s with a := v, pc := s.pc + 1 }) ∧
    (peek8 nn s = some v → exec (.ldAAtImm16 nn) s = .next { charged 16 s with a := v, pc := s.pc + 3 }) ∧
    (peek8 (BitVec.ofNat 16 (0xFF00 + n.toNat)) s = some v →
      exec (.ldhAAtImm n) s = .next { charged 12 s with a := v, pc := s.pc + 2 }) ∧
    (peek8 (BitVec.ofNat 16 (0xFF00 + s.c.toNat)) s = some v →
      exec .ldAAtC s = .next { charged 8 s with a := v, pc := s.pc + 1 })

/-- The stores of A (R207, R208, R210, R212, R214): to BC, DE, nn, 0xFF00 + n and 0xFF00 + C. -/
def Obligations.StoreAccumulator : Prop :=
  ∀ (s t : State) (n : Byte) (nn : Word),
    encode .ldAtBCA = [0x02] ∧ encode .ldAtDEA = [0x12] ∧ encode (.ldAtImm16A nn) = [0xEA, lo8 nn, hi8 nn] ∧
    encode (.ldhAtImmA n) = [0xE0, n] ∧ encode .ldAtCA = [0xE2] ∧
    (poke8 s.bc s.a (charged 8 s) = some t → exec .ldAtBCA s = .next { t with pc := s.pc + 1 }) ∧
    (poke8 s.de s.a (charged 8 s) = some t → exec .ldAtDEA s = .next { t with pc := s.pc + 1 }) ∧
    (poke8 nn s.a (charged 16 s) = some t → exec (.ldAtImm16A nn) s = .next { t with pc := s.pc + 3 }) ∧
    (poke8 (BitVec.ofNat 16 (0xFF00 + n.toNat)) s.a (charged 12 s) = some t →
      exec (.ldhAtImmA n) s = .next { t with pc := s.pc + 2 }) ∧
    (poke8 (BitVec.ofNat 16 (0xFF00 + s.c.toNat)) s.a (charged 8 s) = some t →
      exec .ldAtCA s = .next { t with pc := s.pc + 1 })

/-- The auto-indexing loads and stores (R215 to R218): the access is at the HL of before, then HL moves by one, wrapping. -/
def Obligations.AutoIndex : Prop :=
  ∀ (s t : State) (v : Byte),
    encode .ldAAtHLInc = [0x2A] ∧ encode .ldAAtHLDec = [0x3A] ∧ encode .ldAtHLIncA = [0x22] ∧ encode .ldAtHLDecA = [0x32] ∧
    (peek8 s.hl s = some v →
      exec .ldAAtHLInc s = .next { charged 8 s with a := v, h := hi8 (s.hl + 1), l := lo8 (s.hl + 1), pc := s.pc + 1 } ∧
      exec .ldAAtHLDec s = .next { charged 8 s with a := v, h := hi8 (s.hl - 1), l := lo8 (s.hl - 1), pc := s.pc + 1 }) ∧
    (poke8 s.hl s.a (charged 8 s) = some t →
      exec .ldAtHLIncA s = .next { t with h := hi8 (s.hl + 1), l := lo8 (s.hl + 1), pc := s.pc + 1 } ∧
      exec .ldAtHLDecA s = .next { t with h := hi8 (s.hl - 1), l := lo8 (s.hl - 1), pc := s.pc + 1 })

/-! ### 16-bit loads and the stack -/

/-- LD dd,nn, LD SP,HL (R242, R244) and LD (nn),SP (R243): the low byte of SP is stored at nn, then the high byte at nn + 1,
which wraps. -/
def Obligations.LoadPairStoreSP : Prop :=
  ∀ (s t u : State) (nn : Word),
    encode (.ldBCImm16 nn) = [0x01, lo8 nn, hi8 nn] ∧ encode (.ldDEImm16 nn) = [0x11, lo8 nn, hi8 nn] ∧
    encode (.ldHLImm16 nn) = [0x21, lo8 nn, hi8 nn] ∧ encode (.ldSPImm16 nn) = [0x31, lo8 nn, hi8 nn] ∧
    encode .ldSPHL = [0xF9] ∧
    exec (.ldBCImm16 nn) s = .next { charged 12 s with b := hi8 nn, c := lo8 nn, pc := s.pc + 3 } ∧
    exec (.ldDEImm16 nn) s = .next { charged 12 s with d := hi8 nn, e := lo8 nn, pc := s.pc + 3 } ∧
    exec (.ldHLImm16 nn) s = .next { charged 12 s with h := hi8 nn, l := lo8 nn, pc := s.pc + 3 } ∧
    exec (.ldSPImm16 nn) s = .next { charged 12 s with sp := nn, pc := s.pc + 3 } ∧
    exec .ldSPHL s = .next { charged 8 s with sp := s.hl, pc := s.pc + 1 } ∧
    encode (.ldAtImm16SP nn) = [0x08, lo8 nn, hi8 nn] ∧
    (poke8 nn (lo8 s.sp) (charged 20 s) = some t → poke8 (nn + 1) (hi8 s.sp) t = some u →
      exec (.ldAtImm16SP nn) s = .next { u with pc := s.pc + 3 })

/-- LD HL,SP+e (R245): HL is SP plus the signed displacement, Z and N are 0, and H and C come from the unsigned add of the
low bytes; SP is not written. -/
def Obligations.LoadHLFromSP : Prop :=
  ∀ (s : State) (e : Byte), encode (.ldHLSPDisp e) = [0xF8, e] ∧
    exec (.ldHLSPDisp e) s = .next { charged 12 s with
      h := hi8 (BitVec.ofInt 16 (s.sp.toNat + signedDisp e))
      l := lo8 (BitVec.ofInt 16 (s.sp.toNat + signedDisp e))
      flagZ := false
      flagN := false
      flagH := decide (s.sp.toNat % 16 + e.toNat % 16 > 0x0F)
      flagC := decide (s.sp.toNat % 256 + e.toNat > 0xFF)
      pc := s.pc + 2 }

/-- PUSH BC, DE, HL and AF (R246, R247; R240): the high byte at SP - 1, the low byte at SP - 2, and SP is SP - 2. -/
def Obligations.PushPair : Prop :=
  ∀ (s t u : State) (q : StackPair), encode (pushInstr q) = [BitVec.ofNat 8 (0xC5 + 16 * q.code)] ∧
    (poke8 (s.sp - 1) (hi8 (s.getStackPair q)) (charged 16 s) = some t →
      poke8 (s.sp - 2) (lo8 (s.getStackPair q)) t = some u →
      exec (pushInstr q) s = .next { u with sp := s.sp - 2, pc := s.pc + 1 })

/-- POP BC, DE, HL and AF (R248, R249; R241): the low byte from SP, the high byte from SP + 1, SP is SP + 2, and POP AF loads
the four flags from bits 7 to 4 of the low byte. -/
def Obligations.PopPair : Prop :=
  ∀ (s : State) (lo hi : Byte), (∀ q, encode (popInstr q) = [BitVec.ofNat 8 (0xC1 + 16 * q.code)]) ∧
    (peek8 s.sp s = some lo → peek8 (s.sp + 1) s = some hi →
      exec .popBC s = .next { charged 12 s with b := hi, c := lo, sp := s.sp + 2, pc := s.pc + 1 } ∧
      exec .popDE s = .next { charged 12 s with d := hi, e := lo, sp := s.sp + 2, pc := s.pc + 1 } ∧
      exec .popHL s = .next { charged 12 s with h := hi, l := lo, sp := s.sp + 2, pc := s.pc + 1 } ∧
      exec .popAF s = .next { charged 12 s with
        a := hi
        flagZ := lo.getLsbD 7
        flagN := lo.getLsbD 6
        flagH := lo.getLsbD 5
        flagC := lo.getLsbD 4
        sp := s.sp + 2
        pc := s.pc + 1 })

/-- What is pushed is what is popped (R241): from any state with the storage invariant, PUSH of a pair and then POP of the
same pair, with neither stack byte on the IE cell, restores the pair and SP. -/
def Obligations.PushThenPop : Prop :=
  ∀ (s t u : State) (q : StackPair), StorageInv s → s.sp - 1 ≠ 0xFFFF → s.sp - 2 ≠ 0xFFFF →
    Completes (pushInstr q) s t → Completes (popInstr q) t u →
    u.getStackPair q = s.getStackPair q ∧ u.sp = s.sp

/-! ### 8-bit arithmetic and logic -/

/-- ADD A and ADC A, from a register, (HL) and an immediate (R270 to R275). -/
def Obligations.AddToAccumulator : Prop :=
  (∀ (r : Reg8) (s : State),
    encode (aluInstr .add (.reg r)) = [BitVec.ofNat 8 (0x80 + (R8.reg r).code)] ∧
    encode (aluInstr .adc (.reg r)) = [BitVec.ofNat 8 (0x88 + (R8.reg r).code)] ∧
    exec (aluInstr .add (.reg r)) s = .next { added (s.getReg r) false (charged 4 s) with pc := s.pc + 1 } ∧
    exec (aluInstr .adc (.reg r)) s = .next { added (s.getReg r) s.flagC (charged 4 s) with pc := s.pc + 1 }) ∧
  (∀ (s : State) (v : Byte), encode .addAAtHL = [0x86] ∧ encode .adcAAtHL = [0x8E] ∧ (peek8 s.hl s = some v →
    exec .addAAtHL s = .next { added v false (charged 8 s) with pc := s.pc + 1 } ∧
    exec .adcAAtHL s = .next { added v s.flagC (charged 8 s) with pc := s.pc + 1 })) ∧
  (∀ (s : State) (n : Byte), encode (.addAImm n) = [0xC6, n] ∧ encode (.adcAImm n) = [0xCE, n] ∧
    exec (.addAImm n) s = .next { added n false (charged 8 s) with pc := s.pc + 2 } ∧
    exec (.adcAImm n) s = .next { added n s.flagC (charged 8 s) with pc := s.pc + 2 })

/-- SUB and SBC A, from a register, (HL) and an immediate (R276 to R281), and CP (R291 to R293), which writes the flags of the
subtraction and not A. -/
def Obligations.SubtractFromAccumulator : Prop :=
  (∀ (r : Reg8) (s : State),
    encode (aluInstr .sub (.reg r)) = [BitVec.ofNat 8 (0x90 + (R8.reg r).code)] ∧
    encode (aluInstr .sbc (.reg r)) = [BitVec.ofNat 8 (0x98 + (R8.reg r).code)] ∧
    encode (aluInstr .cp (.reg r)) = [BitVec.ofNat 8 (0xB8 + (R8.reg r).code)] ∧
    exec (aluInstr .sub (.reg r)) s = .next { subtracted (s.getReg r) false (charged 4 s) with pc := s.pc + 1 } ∧
    exec (aluInstr .sbc (.reg r)) s = .next { subtracted (s.getReg r) s.flagC (charged 4 s) with pc := s.pc + 1 } ∧
    exec (aluInstr .cp (.reg r)) s = .next { compared (s.getReg r) (charged 4 s) with pc := s.pc + 1 }) ∧
  (∀ (s : State) (v : Byte), encode .subAtHL = [0x96] ∧ encode .sbcAAtHL = [0x9E] ∧ encode .cpAtHL = [0xBE] ∧
    (peek8 s.hl s = some v →
    exec .subAtHL s = .next { subtracted v false (charged 8 s) with pc := s.pc + 1 } ∧
    exec .sbcAAtHL s = .next { subtracted v s.flagC (charged 8 s) with pc := s.pc + 1 } ∧
    exec .cpAtHL s = .next { compared v (charged 8 s) with pc := s.pc + 1 })) ∧
  (∀ (s : State) (n : Byte), encode (.subImm n) = [0xD6, n] ∧ encode (.sbcAImm n) = [0xDE, n] ∧ encode (.cpImm n) = [0xFE, n] ∧
    exec (.subImm n) s = .next { subtracted n false (charged 8 s) with pc := s.pc + 2 } ∧
    exec (.sbcAImm n) s = .next { subtracted n s.flagC (charged 8 s) with pc := s.pc + 2 } ∧
    exec (.cpImm n) s = .next { compared n (charged 8 s) with pc := s.pc + 2 })

/-- AND, XOR and OR, from a register, (HL) and an immediate (R282 to R290). -/
def Obligations.LogicOnAccumulator : Prop :=
  (∀ (r : Reg8) (s : State),
    encode (aluInstr .and (.reg r)) = [BitVec.ofNat 8 (0xA0 + (R8.reg r).code)] ∧
    encode (aluInstr .xor (.reg r)) = [BitVec.ofNat 8 (0xA8 + (R8.reg r).code)] ∧
    encode (aluInstr .or (.reg r)) = [BitVec.ofNat 8 (0xB0 + (R8.reg r).code)] ∧
    exec (aluInstr .and (.reg r)) s = .next { logicResult (s.a &&& s.getReg r) true (charged 4 s) with pc := s.pc + 1 } ∧
    exec (aluInstr .xor (.reg r)) s = .next { logicResult (s.a ^^^ s.getReg r) false (charged 4 s) with pc := s.pc + 1 } ∧
    exec (aluInstr .or (.reg r)) s = .next { logicResult (s.a ||| s.getReg r) false (charged 4 s) with pc := s.pc + 1 }) ∧
  (∀ (s : State) (v : Byte), encode .andAtHL = [0xA6] ∧ encode .xorAtHL = [0xAE] ∧ encode .orAtHL = [0xB6] ∧
    (peek8 s.hl s = some v →
      exec .andAtHL s = .next { logicResult (s.a &&& v) true (charged 8 s) with pc := s.pc + 1 } ∧
      exec .xorAtHL s = .next { logicResult (s.a ^^^ v) false (charged 8 s) with pc := s.pc + 1 } ∧
      exec .orAtHL s = .next { logicResult (s.a ||| v) false (charged 8 s) with pc := s.pc + 1 })) ∧
  (∀ (s : State) (n : Byte), encode (.andImm n) = [0xE6, n] ∧ encode (.xorImm n) = [0xEE, n] ∧ encode (.orImm n) = [0xF6, n] ∧
    exec (.andImm n) s = .next { logicResult (s.a &&& n) true (charged 8 s) with pc := s.pc + 2 } ∧
    exec (.xorImm n) s = .next { logicResult (s.a ^^^ n) false (charged 8 s) with pc := s.pc + 2 } ∧
    exec (.orImm n) s = .next { logicResult (s.a ||| n) false (charged 8 s) with pc := s.pc + 2 })

/-- INC and DEC of a register and of the byte at HL (R294 to R297): the result wraps, Z, N and H are written, and C is kept. -/
def Obligations.IncrementDecrement8 : Prop :=
  (∀ (r : Reg8) (s : State),
    encode (incInstr (.reg r)) = [BitVec.ofNat 8 (0x04 + 8 * (R8.reg r).code)] ∧
    encode (decInstr (.reg r)) = [BitVec.ofNat 8 (0x05 + 8 * (R8.reg r).code)] ∧
    exec (incInstr (.reg r)) s = .next { (charged 4 s).setReg r (s.getReg r + 1) with
      flagZ := decide (s.getReg r = 0xFF), flagN := false, flagH := decide ((s.getReg r).toNat % 16 = 0x0F), pc := s.pc + 1 } ∧
    exec (decInstr (.reg r)) s = .next { (charged 4 s).setReg r (s.getReg r - 1) with
      flagZ := decide (s.getReg r = 0x01), flagN := true, flagH := decide ((s.getReg r).toNat % 16 = 0x00), pc := s.pc + 1 }) ∧
  (∀ (s t : State) (v : Byte), encode .incAtHL = [0x34] ∧ encode .decAtHL = [0x35] ∧ (peek8 s.hl s = some v →
    (poke8 s.hl (v + 1) (charged 12 s) = some t → exec .incAtHL s = .next { t with
      flagZ := decide (v = 0xFF), flagN := false, flagH := decide (v.toNat % 16 = 0x0F), pc := s.pc + 1 }) ∧
    (poke8 s.hl (v - 1) (charged 12 s) = some t → exec .decAtHL s = .next { t with
      flagZ := decide (v = 0x01), flagN := true, flagH := decide (v.toNat % 16 = 0x00), pc := s.pc + 1 })))

/-- DAA, CPL, SCF and CCF (R298 to R301): their results and the flags they write and keep. -/
def Obligations.AccumulatorAdjust : Prop :=
  ∀ s : State,
    encode .daa = [0x27] ∧ encode .cpl = [0x2F] ∧ encode .scf = [0x37] ∧ encode .ccf = [0x3F] ∧
    (∀ k, k = daaCorrection s.a s.flagN s.flagH s.flagC → ∃ r : Byte,
      r.toNat = (if s.flagN then 256 + s.a.toNat - k else s.a.toNat + k) % 256 ∧
      exec .daa s = .next { charged 4 s with
        a := r
        flagZ := decide (r.toNat = 0)
        flagH := false
        flagC := s.flagC || (!s.flagN && decide (s.a.toNat > 0x99))
        pc := s.pc + 1 }) ∧
    exec .cpl s = .next { charged 4 s with a := ~~~s.a, flagN := true, flagH := true, pc := s.pc + 1 } ∧
    exec .scf s = .next { charged 4 s with flagN := false, flagH := false, flagC := true, pc := s.pc + 1 } ∧
    exec .ccf s = .next { charged 4 s with flagN := false, flagH := false, flagC := !s.flagC, pc := s.pc + 1 }

/-- What DAA is for (00_scope.md R13, BCD correction; 40_alu_flags.md R170 and 43_alu8.md R298, with the flags that R161 and R162
give ADD A,n, R272, and SUB n, R278): after ADD A,n of two decimal bytes, DAA leaves
their decimal sum modulo 100 with the decimal carry in C; after SUB n it leaves their decimal difference modulo 100 with the
decimal borrow in C. -/
def Obligations.DaaIsDecimal : Prop :=
  ∀ (s t u : State) (n : Byte), isBcd s.a → isBcd n →
    (exec (.addAImm n) s = .next t → exec .daa t = .next u →
      isBcd u.a ∧ bcdValue u.a + 100 * u.flagC.toNat = bcdValue s.a + bcdValue n) ∧
    (exec (.subImm n) s = .next t → exec .daa t = .next u →
      isBcd u.a ∧ bcdValue u.a + bcdValue n = bcdValue s.a + 100 * u.flagC.toNat)

/-! ### 16-bit arithmetic -/

/-- ADD HL,dd (R310): the sum wraps, N is 0, H is the carry out of bit 11, C the carry out of bit 15, and Z is kept. INC dd
and DEC dd (R311, R312): the pair moves by one, wrapping, and no flag is written. -/
def Obligations.Arithmetic16 : Prop :=
  ∀ (s : State) (p : Pair),
    encode (addHlInstr p) = [BitVec.ofNat 8 (0x09 + 16 * p.code)] ∧
    encode (incPairInstr p) = [BitVec.ofNat 8 (0x03 + 16 * p.code)] ∧
    encode (decPairInstr p) = [BitVec.ofNat 8 (0x0B + 16 * p.code)] ∧
    exec (incPairInstr p) s = .next (((charged 8 s).setPair p (s.getPair p + 1)).setPC (s.pc + 1)) ∧
    exec (decPairInstr p) s = .next (((charged 8 s).setPair p (s.getPair p - 1)).setPC (s.pc + 1)) ∧
    exec (addHlInstr p) s = .next { charged 8 s with
      h := hi8 (s.hl + s.getPair p)
      l := lo8 (s.hl + s.getPair p)
      flagN := false
      flagH := decide (s.hl.toNat % 4096 + (s.getPair p).toNat % 4096 > 0x0FFF)
      flagC := decide (s.hl.toNat + (s.getPair p).toNat > 0xFFFF)
      pc := s.pc + 1 }

/-! ### Rotates, shifts and bit operations -/

/-- RLCA, RRCA, RLA and RRA (R330 to R333): A rotated, Z, N and H cleared whatever the result, C the bit rotated out. -/
def Obligations.RotateAccumulator : Prop :=
  ∀ s : State,
    encode .rlca = [0x07] ∧ encode .rrca = [0x0F] ∧ encode .rla = [0x17] ∧ encode .rra = [0x1F] ∧
    (∀ (i : Instr) (op : RotOp), (i, op) ∈ [(Instr.rlca, RotOp.rlc), (.rrca, .rrc), (.rla, .rl), (.rra, .rr)] →
      exec i s = .next { charged 4 s with
        a := BitVec.ofNat 8 (shifted op s.a s.flagC).1
        flagZ := false
        flagN := false
        flagH := false
        flagC := (shifted op s.a s.flagC).2
        pc := s.pc + 1 })

/-- The escape-table rotates, shifts and SWAP on a register (R334, R336, R338, R340, R342, R344, R346, R348). -/
def Obligations.RotateRegister : Prop :=
  ∀ (op : RotOp) (r : Reg8) (s : State),
    encode (rotInstr op (.reg r)) = [0xCB, BitVec.ofNat 8 (8 * op.code + (R8.reg r).code)] ∧
    exec (rotInstr op (.reg r)) s = .next { shiftFlags (shifted op (s.getReg r) s.flagC)
      ((charged 8 s).setReg r (BitVec.ofNat 8 (shifted op (s.getReg r) s.flagC).1)) with pc := s.pc + 2 }

/-- The escape-table rotates, shifts and SWAP on the byte at HL (R335, R337, R339, R341, R343, R345, R347, R349). -/
def Obligations.RotateAtHL : Prop :=
  ∀ (op : RotOp) (s t : State) (v : Byte), encode (rotInstr op .atHL) = [0xCB, BitVec.ofNat 8 (8 * op.code + 6)] ∧
    (peek8 s.hl s = some v → poke8 s.hl (BitVec.ofNat 8 (shifted op v s.flagC).1) (charged 16 s) = some t →
      exec (rotInstr op .atHL) s = .next { shiftFlags (shifted op v s.flagC) t with pc := s.pc + 2 })

/-- BIT b of a register and of the byte at HL (R350, R351): Z is the complement of the bit, N is 0, H is 1, C is kept. -/
def Obligations.BitTest : Prop :=
  (∀ (b : Idx3) (r : Reg8) (s : State),
    encode (bitInstr b (.reg r)) = [0xCB, BitVec.ofNat 8 (0x40 + 8 * b.toNat + (R8.reg r).code)] ∧
    exec (bitInstr b (.reg r)) s = .next { charged 8 s with
      flagZ := decide (bitOf b (s.getReg r) = 0), flagN := false, flagH := true, pc := s.pc + 2 }) ∧
  (∀ (b : Idx3) (s : State) (v : Byte), encode (bitInstr b .atHL) = [0xCB, BitVec.ofNat 8 (0x46 + 8 * b.toNat)] ∧
    (peek8 s.hl s = some v → exec (bitInstr b .atHL) s = .next { charged 12 s with
      flagZ := decide (bitOf b v = 0), flagN := false, flagH := true, pc := s.pc + 2 }))

/-- RES b and SET b on a register and on the byte at HL (R352 to R355): exactly bit b becomes 0 or 1, and no flag changes. -/
def Obligations.BitResetSet : Prop :=
  (∀ (b : Idx3) (r : Reg8) (s : State),
    encode (resInstr b (.reg r)) = [0xCB, BitVec.ofNat 8 (0x80 + 8 * b.toNat + (R8.reg r).code)] ∧
    encode (setInstr b (.reg r)) = [0xCB, BitVec.ofNat 8 (0xC0 + 8 * b.toNat + (R8.reg r).code)] ∧
    exec (resInstr b (.reg r)) s = .next (((charged 8 s).setReg r
      (BitVec.ofNat 8 ((s.getReg r).toNat - 2 ^ b.toNat * bitOf b (s.getReg r)))).setPC (s.pc + 2)) ∧
    exec (setInstr b (.reg r)) s = .next (((charged 8 s).setReg r
      (BitVec.ofNat 8 ((s.getReg r).toNat + 2 ^ b.toNat * (1 - bitOf b (s.getReg r))))).setPC (s.pc + 2))) ∧
  (∀ (b : Idx3) (s t : State) (v : Byte),
    encode (resInstr b .atHL) = [0xCB, BitVec.ofNat 8 (0x86 + 8 * b.toNat)] ∧
    encode (setInstr b .atHL) = [0xCB, BitVec.ofNat 8 (0xC6 + 8 * b.toNat)] ∧
    (peek8 s.hl s = some v →
      (poke8 s.hl (BitVec.ofNat 8 (v.toNat - 2 ^ b.toNat * bitOf b v)) (charged 16 s) = some t →
        exec (resInstr b .atHL) s = .next (t.setPC (s.pc + 2))) ∧
      (poke8 s.hl (BitVec.ofNat 8 (v.toNat + 2 ^ b.toNat * (1 - bitOf b v))) (charged 16 s) = some t →
        exec (setInstr b .atHL) s = .next (t.setPC (s.pc + 2)))))

/-! ### Control flow -/

/-- The conditions (40_alu_flags.md R171), and JP nn, JP cc,nn and JP (HL) (R370 to R372): JP (HL) goes to HL itself and
reads no memory. -/
def Obligations.Jumps : Prop :=
  ∀ (s : State) (nn : Word) (cc : Cond),
    (s.cond .nz = true ↔ s.flagZ = false) ∧ (s.cond .z = true ↔ s.flagZ = true) ∧
    (s.cond .nc = true ↔ s.flagC = false) ∧ (s.cond .c = true ↔ s.flagC = true) ∧
    encode (.jpImm16 nn) = [0xC3, lo8 nn, hi8 nn] ∧ encode .jpAtHL = [0xE9] ∧
    encode (jpCcInstr cc nn) = [BitVec.ofNat 8 (0xC2 + 8 * cc.code), lo8 nn, hi8 nn] ∧
    exec (.jpImm16 nn) s = .next { charged 16 s with pc := nn } ∧
    exec .jpAtHL s = .next { charged 4 s with pc := s.hl } ∧
    exec (jpCcInstr cc nn) s =
      .next (if s.cond cc then { charged 16 s with pc := nn } else { charged 12 s with pc := s.pc + 3 })

/-- JR e and JR cc,e (R373 to R375): the target is the signed displacement from pc + 2 under `JR_TARGET_BASE = NEXT` and from
pc under OPCODE, modulo 2^16. -/
def Obligations.RelativeJumps : Prop :=
  ∀ (s : State) (e : Byte) (cc : Cond) (target : Word),
    target = BitVec.ofInt 16 ((s.pc.toNat : Int) + (if s.cfg.jrTargetBase = .next then 2 else 0) + signedDisp e) →
    encode (.jrDisp e) = [0x18, e] ∧ encode (jrCcInstr cc e) = [BitVec.ofNat 8 (0x20 + 8 * cc.code), e] ∧
    exec (.jrDisp e) s = .next { charged 12 s with pc := target } ∧
    exec (jrCcInstr cc e) s =
      .next (if s.cond cc then { charged 12 s with pc := target } else { charged 8 s with pc := s.pc + 2 })

/-- CALL nn, CALL cc,nn and RST t (R376, R377, R381): the address of the next instruction is pushed, high byte first, and pc
is nn or the vector t × 8; a CALL cc that is not taken writes pc alone. -/
def Obligations.Calls : Prop :=
  ∀ (s t u : State) (nn : Word) (cc : Cond) (k : Idx3),
    encode (.callImm16 nn) = [0xCD, lo8 nn, hi8 nn] ∧
    encode (callCcInstr cc nn) = [BitVec.ofNat 8 (0xC4 + 8 * cc.code), lo8 nn, hi8 nn] ∧
    encode (rstInstr k) = [BitVec.ofNat 8 (0xC7 + 8 * k.toNat)] ∧
    (poke8 (s.sp - 1) (hi8 (s.pc + 3)) (charged 24 s) = some t → poke8 (s.sp - 2) (lo8 (s.pc + 3)) t = some u →
      exec (.callImm16 nn) s = .next { u with sp := s.sp - 2, pc := nn } ∧
      (s.cond cc = true → exec (callCcInstr cc nn) s = .next { u with sp := s.sp - 2, pc := nn })) ∧
    (s.cond cc = false → exec (callCcInstr cc nn) s = .next { charged 12 s with pc := s.pc + 3 }) ∧
    (poke8 (s.sp - 1) (hi8 (s.pc + 1)) (charged 16 s) = some t → poke8 (s.sp - 2) (lo8 (s.pc + 1)) t = some u →
      exec (rstInstr k) s = .next { u with sp := s.sp - 2, pc := BitVec.ofNat 16 (8 * k.toNat) })

/-- RET, RET cc and RETI (R378 to R380): pc is popped, low byte first; RETI also sets IME at once; a RET cc that is not taken
reads no stack and writes pc alone. -/
def Obligations.Returns : Prop :=
  ∀ (s : State) (lo hi : Byte) (cc : Cond),
    encode .ret = [0xC9] ∧ encode .reti = [0xD9] ∧ encode (retCcInstr cc) = [BitVec.ofNat 8 (0xC0 + 8 * cc.code)] ∧
    (peek8 s.sp s = some lo → peek8 (s.sp + 1) s = some hi →
      exec .ret s = .next { charged 16 s with pc := join hi lo, sp := s.sp + 2 } ∧
      exec .reti s = .next { charged 16 s with pc := join hi lo, sp := s.sp + 2, ime := true } ∧
      (s.cond cc = true → exec (retCcInstr cc) s = .next { charged 20 s with pc := join hi lo, sp := s.sp + 2 })) ∧
    (s.cond cc = false → exec (retCcInstr cc) s = .next { charged 8 s with pc := s.pc + 1 })

/-- A call returns (R376, R378, R240, R241): from any state with the storage invariant and a stack clear of the IE cell, a
CALL nn that completes and then RET, in whatever state the called code left with the same SP and memory, comes back to the
instruction after the CALL with SP restored. -/
def Obligations.CallThenReturn : Prop :=
  ∀ (s t r u : State) (nn : Word), StorageInv s → s.sp - 1 ≠ 0xFFFF → s.sp - 2 ≠ 0xFFFF →
    Completes (.callImm16 nn) s t → r.sp = t.sp → r.mem = t.mem → r.ie = t.ie → r.cfg = t.cfg →
    Completes .ret r u → u.pc = s.pc + 3 ∧ u.sp = s.sp

/-- NOP, DI and EI (R400 to R402). -/
def Obligations.LatchControl : Prop :=
  ∀ s : State,
    encode .nop = [0x00] ∧ encode .di = [0xF3] ∧ encode .ei = [0xFB] ∧
    exec .nop s = .next { charged 4 s with pc := s.pc + 1 } ∧
    exec .di s = .next { charged 4 s with ime := false, pc := s.pc + 1 } ∧
    exec .ei s = .next { charged 4 s with imeNext := true, pc := s.pc + 1 }
end

