-- ==== Sys2Proof/Laws/Decode.lean ====
section
/-! SUPPORT. Decode, entry by entry: what a list of bytes and what the bus at pc decode to, for each form a row of the primary
table can have. -/

namespace Sys2Proof

variable {op : Byte}

theorem decode_done {i : Instr} (h : primaryEntry op = .done i) (rest : List Byte) : decode (op :: rest) = .ok (i, rest) := by
  simp [decode, decodeWith, decodeRest, byteAt, h, Entry.bytes]

theorem decode_imm8 {k : Byte → Instr} (h : primaryEntry op = .imm8 k) (n : Byte) (rest : List Byte) :
    decode (op :: n :: rest) = .ok (k n, rest) := by
  simp [decode, decodeWith, decodeRest, byteAt, h, Entry.bytes]

theorem decode_imm16 {k : Word → Instr} (h : primaryEntry op = .imm16 k) (lo hi : Byte) (rest : List Byte) :
    decode (op :: lo :: hi :: rest) = .ok (k (join hi lo), rest) := by
  simp [decode, decodeWith, decodeRest, byteAt, h, Entry.bytes]

theorem decode_escape (op2 : Byte) (rest : List Byte) (h : primaryEntry op = .escape) :
    decode (op :: op2 :: rest) = .ok (escapeTable op2, rest) := by
  simp [decode, decodeWith, decodeRest, byteAt, h, Entry.bytes]

/-- Only 0xCB opens the escape table (R126). -/
theorem primaryEntry_escape : primaryEntry op = .escape ↔ op = 0xCB := by
  constructor
  · have key : ∀ op : Byte, (match primaryEntry op with | .escape => decide (op = 0xCB) | _ => true) = true := by decide
    intro h
    have := key op
    rw [h] at this
    exact of_decide_eq_true this
  · rintro rfl
    rfl

/-- Decode of a reader depends only on the bytes the row has. -/
theorem decodeWith_congr {ε ε' : Type} {rd : Nat → Except ε Byte} {rd' : Nat → Except ε' Byte} {i : Instr}
    (h : decodeWith rd = .ok i)
    (hb : ∀ op, rd 0 = .ok op → ∀ k v, k < (primaryEntry op).bytes → rd k = .ok v → rd' k = .ok v) :
    decodeWith rd' = .ok i := by
  unfold decodeWith at h ⊢
  cases h0 : rd 0 with
  | error x => rw [h0] at h; cases h
  | ok op =>
    have hp : 0 < (primaryEntry op).bytes := by cases primaryEntry op <;> simp [Entry.bytes]
    rw [h0] at h
    rw [hb op h0 0 op hp h0]
    simp only [decodeRest] at h ⊢
    cases he : primaryEntry op with
    | done j => rw [he] at h; simpa using h
    | imm8 k =>
      rw [he] at h
      cases h1 : rd 1 with
      | error x => rw [h1] at h; cases h
      | ok n =>
        rw [h1] at h
        rw [hb op h0 1 n (by simp [he, Entry.bytes]) h1]
        simpa using h
    | imm16 k =>
      rw [he] at h
      cases h1 : rd 1 with
      | error x => rw [h1] at h; cases h
      | ok lo =>
        cases h2 : rd 2 with
        | error x => rw [h1, h2] at h; cases h
        | ok hi =>
          rw [h1, h2] at h
          rw [hb op h0 1 lo (by simp [he, Entry.bytes]) h1, hb op h0 2 hi (by simp [he, Entry.bytes]) h2]
          simpa using h
    | escape =>
      rw [he] at h
      cases h1 : rd 1 with
      | error x => rw [h1] at h; cases h
      | ok n =>
        rw [h1] at h
        rw [hb op h0 1 n (by simp [he, Entry.bytes]) h1]
        simpa using h

end Sys2Proof
end

