-- ==== Sys2Proof/Laws/Forms.lean ====
section
/-! SUPPORT. The 512 constructors by the operand fields of their rows: a case principle with one case per family, and `exec`
on each family as its cost and its shared body. A proof about every instruction goes through these, and not through 512
cases of its own. -/

namespace Sys2Proof

open Machine

/-- Every instruction is a row of one of the families, or one of the rows without a family. -/
theorem Instr.byForm {P : Instr → Prop}
    (ld : ∀ (d : R8) (r : R8), P (ldInstr d r))
    (ldImm : ∀ (d : R8) (n : Byte), P (ldImmInstr d n))
    (inc : ∀ (r : R8), P (incInstr r))
    (dec : ∀ (r : R8), P (decInstr r))
    (alu : ∀ (op : AluOp) (r : R8), P (aluInstr op r))
    (aluImm : ∀ (op : AluOp) (n : Byte), P (aluImmInstr op n))
    (ldPair : ∀ (p : Pair) (nn : Word), P (ldPairInstr p nn))
    (addHl : ∀ (p : Pair), P (addHlInstr p))
    (incPair : ∀ (p : Pair), P (incPairInstr p))
    (decPair : ∀ (p : Pair), P (decPairInstr p))
    (pop : ∀ (q : StackPair), P (popInstr q))
    (push : ∀ (q : StackPair), P (pushInstr q))
    (jrCc : ∀ (cc : Cond) (e : Byte), P (jrCcInstr cc e))
    (retCc : ∀ (cc : Cond), P (retCcInstr cc))
    (jpCc : ∀ (cc : Cond) (nn : Word), P (jpCcInstr cc nn))
    (callCc : ∀ (cc : Cond) (nn : Word), P (callCcInstr cc nn))
    (rst : ∀ (t : Idx3), P (rstInstr t))
    (rot : ∀ (op : RotOp) (r : R8), P (rotInstr op r))
    (bit : ∀ (b : Idx3) (r : R8), P (bitInstr b r))
    (res : ∀ (b : Idx3) (r : R8), P (resInstr b r))
    (set : ∀ (b : Idx3) (r : R8), P (setInstr b r))
    (nop : P .nop)
    (ldAtBCA : P .ldAtBCA)
    (rlca : P .rlca)
    (ldAtImm16SP : ∀ (nn : Word), P (.ldAtImm16SP nn))
    (ldAAtBC : P .ldAAtBC)
    (rrca : P .rrca)
    (stop : P .stop)
    (ldAtDEA : P .ldAtDEA)
    (rla : P .rla)
    (jrDisp : ∀ (e : Byte), P (.jrDisp e))
    (ldAAtDE : P .ldAAtDE)
    (rra : P .rra)
    (ldAtHLIncA : P .ldAtHLIncA)
    (daa : P .daa)
    (ldAAtHLInc : P .ldAAtHLInc)
    (cpl : P .cpl)
    (ldAtHLDecA : P .ldAtHLDecA)
    (scf : P .scf)
    (ldAAtHLDec : P .ldAAtHLDec)
    (ccf : P .ccf)
    (jpImm16 : ∀ (nn : Word), P (.jpImm16 nn))
    (ret : P .ret)
    (prefixCB : ∀ (op2 : Byte), P (.prefixCB op2))
    (callImm16 : ∀ (nn : Word), P (.callImm16 nn))
    (unusedD3 : P .unusedD3)
    (reti : P .reti)
    (unusedDB : P .unusedDB)
    (unusedDD : P .unusedDD)
    (ldhAtImmA : ∀ (n : Byte), P (.ldhAtImmA n))
    (ldAtCA : P .ldAtCA)
    (unusedE3 : P .unusedE3)
    (unusedE4 : P .unusedE4)
    (addSPDisp : P .addSPDisp)
    (jpAtHL : P .jpAtHL)
    (ldAtImm16A : ∀ (nn : Word), P (.ldAtImm16A nn))
    (unusedEB : P .unusedEB)
    (unusedEC : P .unusedEC)
    (unusedED : P .unusedED)
    (ldhAAtImm : ∀ (n : Byte), P (.ldhAAtImm n))
    (ldAAtC : P .ldAAtC)
    (di : P .di)
    (unusedF4 : P .unusedF4)
    (ldHLSPDisp : ∀ (e : Byte), P (.ldHLSPDisp e))
    (ldSPHL : P .ldSPHL)
    (ldAAtImm16 : ∀ (nn : Word), P (.ldAAtImm16 nn))
    (ei : P .ei)
    (unusedFC : P .unusedFC)
    (unusedFD : P .unusedFD)
    : ∀ i, P i
  | .nop => nop
  | .ldBCImm16 nn => ldPair .bc nn
  | .ldAtBCA => ldAtBCA
  | .incBC => incPair .bc
  | .incB => inc (.reg .b)
  | .decB => dec (.reg .b)
  | .ldBImm n => ldImm (.reg .b) n
  | .rlca => rlca
  | .ldAtImm16SP nn => ldAtImm16SP nn
  | .addHLBC => addHl .bc
  | .ldAAtBC => ldAAtBC
  | .decBC => decPair .bc
  | .incC => inc (.reg .c)
  | .decC => dec (.reg .c)
  | .ldCImm n => ldImm (.reg .c) n
  | .rrca => rrca
  | .stop => stop
  | .ldDEImm16 nn => ldPair .de nn
  | .ldAtDEA => ldAtDEA
  | .incDE => incPair .de
  | .incD => inc (.reg .d)
  | .decD => dec (.reg .d)
  | .ldDImm n => ldImm (.reg .d) n
  | .rla => rla
  | .jrDisp e => jrDisp e
  | .addHLDE => addHl .de
  | .ldAAtDE => ldAAtDE
  | .decDE => decPair .de
  | .incE => inc (.reg .e)
  | .decE => dec (.reg .e)
  | .ldEImm n => ldImm (.reg .e) n
  | .rra => rra
  | .jrNZDisp e => jrCc .nz e
  | .ldHLImm16 nn => ldPair .hl nn
  | .ldAtHLIncA => ldAtHLIncA
  | .incHL => incPair .hl
  | .incH => inc (.reg .h)
  | .decH => dec (.reg .h)
  | .ldHImm n => ldImm (.reg .h) n
  | .daa => daa
  | .jrZDisp e => jrCc .z e
  | .addHLHL => addHl .hl
  | .ldAAtHLInc => ldAAtHLInc
  | .decHL => decPair .hl
  | .incL => inc (.reg .l)
  | .decL => dec (.reg .l)
  | .ldLImm n => ldImm (.reg .l) n
  | .cpl => cpl
  | .jrNCDisp e => jrCc .nc e
  | .ldSPImm16 nn => ldPair .sp nn
  | .ldAtHLDecA => ldAtHLDecA
  | .incSP => incPair .sp
  | .incAtHL => inc .atHL
  | .decAtHL => dec .atHL
  | .ldAtHLImm n => ldImm .atHL n
  | .scf => scf
  | .jrCDisp e => jrCc .c e
  | .addHLSP => addHl .sp
  | .ldAAtHLDec => ldAAtHLDec
  | .decSP => decPair .sp
  | .incA => inc (.reg .a)
  | .decA => dec (.reg .a)
  | .ldAImm n => ldImm (.reg .a) n
  | .ccf => ccf
  | .ldBB => ld (.reg .b) (.reg .b)
  | .ldBC => ld (.reg .b) (.reg .c)
  | .ldBD => ld (.reg .b) (.reg .d)
  | .ldBE => ld (.reg .b) (.reg .e)
  | .ldBH => ld (.reg .b) (.reg .h)
  | .ldBL => ld (.reg .b) (.reg .l)
  | .ldBAtHL => ld (.reg .b) .atHL
  | .ldBA => ld (.reg .b) (.reg .a)
  | .ldCB => ld (.reg .c) (.reg .b)
  | .ldCC => ld (.reg .c) (.reg .c)
  | .ldCD => ld (.reg .c) (.reg .d)
  | .ldCE => ld (.reg .c) (.reg .e)
  | .ldCH => ld (.reg .c) (.reg .h)
  | .ldCL => ld (.reg .c) (.reg .l)
  | .ldCAtHL => ld (.reg .c) .atHL
  | .ldCA => ld (.reg .c) (.reg .a)
  | .ldDB => ld (.reg .d) (.reg .b)
  | .ldDC => ld (.reg .d) (.reg .c)
  | .ldDD => ld (.reg .d) (.reg .d)
  | .ldDE => ld (.reg .d) (.reg .e)
  | .ldDH => ld (.reg .d) (.reg .h)
  | .ldDL => ld (.reg .d) (.reg .l)
  | .ldDAtHL => ld (.reg .d) .atHL
  | .ldDA => ld (.reg .d) (.reg .a)
  | .ldEB => ld (.reg .e) (.reg .b)
  | .ldEC => ld (.reg .e) (.reg .c)
  | .ldED => ld (.reg .e) (.reg .d)
  | .ldEE => ld (.reg .e) (.reg .e)
  | .ldEH => ld (.reg .e) (.reg .h)
  | .ldEL => ld (.reg .e) (.reg .l)
  | .ldEAtHL => ld (.reg .e) .atHL
  | .ldEA => ld (.reg .e) (.reg .a)
  | .ldHB => ld (.reg .h) (.reg .b)
  | .ldHC => ld (.reg .h) (.reg .c)
  | .ldHD => ld (.reg .h) (.reg .d)
  | .ldHE => ld (.reg .h) (.reg .e)
  | .ldHH => ld (.reg .h) (.reg .h)
  | .ldHL => ld (.reg .h) (.reg .l)
  | .ldHAtHL => ld (.reg .h) .atHL
  | .ldHA => ld (.reg .h) (.reg .a)
  | .ldLB => ld (.reg .l) (.reg .b)
  | .ldLC => ld (.reg .l) (.reg .c)
  | .ldLD => ld (.reg .l) (.reg .d)
  | .ldLE => ld (.reg .l) (.reg .e)
  | .ldLH => ld (.reg .l) (.reg .h)
  | .ldLL => ld (.reg .l) (.reg .l)
  | .ldLAtHL => ld (.reg .l) .atHL
  | .ldLA => ld (.reg .l) (.reg .a)
  | .ldAtHLB => ld .atHL (.reg .b)
  | .ldAtHLC => ld .atHL (.reg .c)
  | .ldAtHLD => ld .atHL (.reg .d)
  | .ldAtHLE => ld .atHL (.reg .e)
  | .ldAtHLH => ld .atHL (.reg .h)
  | .ldAtHLL => ld .atHL (.reg .l)
  | .halt => ld .atHL .atHL
  | .ldAtHLA => ld .atHL (.reg .a)
  | .ldAB => ld (.reg .a) (.reg .b)
  | .ldAC => ld (.reg .a) (.reg .c)
  | .ldAD => ld (.reg .a) (.reg .d)
  | .ldAE => ld (.reg .a) (.reg .e)
  | .ldAH => ld (.reg .a) (.reg .h)
  | .ldAL => ld (.reg .a) (.reg .l)
  | .ldAAtHL => ld (.reg .a) .atHL
  | .ldAA => ld (.reg .a) (.reg .a)
  | .addAB => alu .add (.reg .b)
  | .addAC => alu .add (.reg .c)
  | .addAD => alu .add (.reg .d)
  | .addAE => alu .add (.reg .e)
  | .addAH => alu .add (.reg .h)
  | .addAL => alu .add (.reg .l)
  | .addAAtHL => alu .add .atHL
  | .addAA => alu .add (.reg .a)
  | .adcAB => alu .adc (.reg .b)
  | .adcAC => alu .adc (.reg .c)
  | .adcAD => alu .adc (.reg .d)
  | .adcAE => alu .adc (.reg .e)
  | .adcAH => alu .adc (.reg .h)
  | .adcAL => alu .adc (.reg .l)
  | .adcAAtHL => alu .adc .atHL
  | .adcAA => alu .adc (.reg .a)
  | .subB => alu .sub (.reg .b)
  | .subC => alu .sub (.reg .c)
  | .subD => alu .sub (.reg .d)
  | .subE => alu .sub (.reg .e)
  | .subH => alu .sub (.reg .h)
  | .subL => alu .sub (.reg .l)
  | .subAtHL => alu .sub .atHL
  | .subA => alu .sub (.reg .a)
  | .sbcAB => alu .sbc (.reg .b)
  | .sbcAC => alu .sbc (.reg .c)
  | .sbcAD => alu .sbc (.reg .d)
  | .sbcAE => alu .sbc (.reg .e)
  | .sbcAH => alu .sbc (.reg .h)
  | .sbcAL => alu .sbc (.reg .l)
  | .sbcAAtHL => alu .sbc .atHL
  | .sbcAA => alu .sbc (.reg .a)
  | .andB => alu .and (.reg .b)
  | .andC => alu .and (.reg .c)
  | .andD => alu .and (.reg .d)
  | .andE => alu .and (.reg .e)
  | .andH => alu .and (.reg .h)
  | .andL => alu .and (.reg .l)
  | .andAtHL => alu .and .atHL
  | .andA => alu .and (.reg .a)
  | .xorB => alu .xor (.reg .b)
  | .xorC => alu .xor (.reg .c)
  | .xorD => alu .xor (.reg .d)
  | .xorE => alu .xor (.reg .e)
  | .xorH => alu .xor (.reg .h)
  | .xorL => alu .xor (.reg .l)
  | .xorAtHL => alu .xor .atHL
  | .xorA => alu .xor (.reg .a)
  | .orB => alu .or (.reg .b)
  | .orC => alu .or (.reg .c)
  | .orD => alu .or (.reg .d)
  | .orE => alu .or (.reg .e)
  | .orH => alu .or (.reg .h)
  | .orL => alu .or (.reg .l)
  | .orAtHL => alu .or .atHL
  | .orA => alu .or (.reg .a)
  | .cpB => alu .cp (.reg .b)
  | .cpC => alu .cp (.reg .c)
  | .cpD => alu .cp (.reg .d)
  | .cpE => alu .cp (.reg .e)
  | .cpH => alu .cp (.reg .h)
  | .cpL => alu .cp (.reg .l)
  | .cpAtHL => alu .cp .atHL
  | .cpA => alu .cp (.reg .a)
  | .retNZ => retCc .nz
  | .popBC => pop .bc
  | .jpNZImm16 nn => jpCc .nz nn
  | .jpImm16 nn => jpImm16 nn
  | .callNZImm16 nn => callCc .nz nn
  | .pushBC => push .bc
  | .addAImm n => aluImm .add n
  | .rst00 => rst .i0
  | .retZ => retCc .z
  | .ret => ret
  | .jpZImm16 nn => jpCc .z nn
  | .prefixCB op2 => prefixCB op2
  | .callZImm16 nn => callCc .z nn
  | .callImm16 nn => callImm16 nn
  | .adcAImm n => aluImm .adc n
  | .rst08 => rst .i1
  | .retNC => retCc .nc
  | .popDE => pop .de
  | .jpNCImm16 nn => jpCc .nc nn
  | .unusedD3 => unusedD3
  | .callNCImm16 nn => callCc .nc nn
  | .pushDE => push .de
  | .subImm n => aluImm .sub n
  | .rst10 => rst .i2
  | .retC => retCc .c
  | .reti => reti
  | .jpCImm16 nn => jpCc .c nn
  | .unusedDB => unusedDB
  | .callCImm16 nn => callCc .c nn
  | .unusedDD => unusedDD
  | .sbcAImm n => aluImm .sbc n
  | .rst18 => rst .i3
  | .ldhAtImmA n => ldhAtImmA n
  | .popHL => pop .hl
  | .ldAtCA => ldAtCA
  | .unusedE3 => unusedE3
  | .unusedE4 => unusedE4
  | .pushHL => push .hl
  | .andImm n => aluImm .and n
  | .rst20 => rst .i4
  | .addSPDisp => addSPDisp
  | .jpAtHL => jpAtHL
  | .ldAtImm16A nn => ldAtImm16A nn
  | .unusedEB => unusedEB
  | .unusedEC => unusedEC
  | .unusedED => unusedED
  | .xorImm n => aluImm .xor n
  | .rst28 => rst .i5
  | .ldhAAtImm n => ldhAAtImm n
  | .popAF => pop .af
  | .ldAAtC => ldAAtC
  | .di => di
  | .unusedF4 => unusedF4
  | .pushAF => push .af
  | .orImm n => aluImm .or n
  | .rst30 => rst .i6
  | .ldHLSPDisp e => ldHLSPDisp e
  | .ldSPHL => ldSPHL
  | .ldAAtImm16 nn => ldAAtImm16 nn
  | .ei => ei
  | .unusedFC => unusedFC
  | .unusedFD => unusedFD
  | .cpImm n => aluImm .cp n
  | .rst38 => rst .i7
  | .rlcB => rot .rlc (.reg .b)
  | .rlcC => rot .rlc (.reg .c)
  | .rlcD => rot .rlc (.reg .d)
  | .rlcE => rot .rlc (.reg .e)
  | .rlcH => rot .rlc (.reg .h)
  | .rlcL => rot .rlc (.reg .l)
  | .rlcAtHL => rot .rlc .atHL
  | .rlcA => rot .rlc (.reg .a)
  | .rrcB => rot .rrc (.reg .b)
  | .rrcC => rot .rrc (.reg .c)
  | .rrcD => rot .rrc (.reg .d)
  | .rrcE => rot .rrc (.reg .e)
  | .rrcH => rot .rrc (.reg .h)
  | .rrcL => rot .rrc (.reg .l)
  | .rrcAtHL => rot .rrc .atHL
  | .rrcA => rot .rrc (.reg .a)
  | .rlB => rot .rl (.reg .b)
  | .rlC => rot .rl (.reg .c)
  | .rlD => rot .rl (.reg .d)
  | .rlE => rot .rl (.reg .e)
  | .rlH => rot .rl (.reg .h)
  | .rlL => rot .rl (.reg .l)
  | .rlAtHL => rot .rl .atHL
  | .rlA => rot .rl (.reg .a)
  | .rrB => rot .rr (.reg .b)
  | .rrC => rot .rr (.reg .c)
  | .rrD => rot .rr (.reg .d)
  | .rrE => rot .rr (.reg .e)
  | .rrH => rot .rr (.reg .h)
  | .rrL => rot .rr (.reg .l)
  | .rrAtHL => rot .rr .atHL
  | .rrA => rot .rr (.reg .a)
  | .slaB => rot .sla (.reg .b)
  | .slaC => rot .sla (.reg .c)
  | .slaD => rot .sla (.reg .d)
  | .slaE => rot .sla (.reg .e)
  | .slaH => rot .sla (.reg .h)
  | .slaL => rot .sla (.reg .l)
  | .slaAtHL => rot .sla .atHL
  | .slaA => rot .sla (.reg .a)
  | .sraB => rot .sra (.reg .b)
  | .sraC => rot .sra (.reg .c)
  | .sraD => rot .sra (.reg .d)
  | .sraE => rot .sra (.reg .e)
  | .sraH => rot .sra (.reg .h)
  | .sraL => rot .sra (.reg .l)
  | .sraAtHL => rot .sra .atHL
  | .sraA => rot .sra (.reg .a)
  | .swapB => rot .swap (.reg .b)
  | .swapC => rot .swap (.reg .c)
  | .swapD => rot .swap (.reg .d)
  | .swapE => rot .swap (.reg .e)
  | .swapH => rot .swap (.reg .h)
  | .swapL => rot .swap (.reg .l)
  | .swapAtHL => rot .swap .atHL
  | .swapA => rot .swap (.reg .a)
  | .srlB => rot .srl (.reg .b)
  | .srlC => rot .srl (.reg .c)
  | .srlD => rot .srl (.reg .d)
  | .srlE => rot .srl (.reg .e)
  | .srlH => rot .srl (.reg .h)
  | .srlL => rot .srl (.reg .l)
  | .srlAtHL => rot .srl .atHL
  | .srlA => rot .srl (.reg .a)
  | .bit0B => bit .i0 (.reg .b)
  | .bit0C => bit .i0 (.reg .c)
  | .bit0D => bit .i0 (.reg .d)
  | .bit0E => bit .i0 (.reg .e)
  | .bit0H => bit .i0 (.reg .h)
  | .bit0L => bit .i0 (.reg .l)
  | .bit0AtHL => bit .i0 .atHL
  | .bit0A => bit .i0 (.reg .a)
  | .bit1B => bit .i1 (.reg .b)
  | .bit1C => bit .i1 (.reg .c)
  | .bit1D => bit .i1 (.reg .d)
  | .bit1E => bit .i1 (.reg .e)
  | .bit1H => bit .i1 (.reg .h)
  | .bit1L => bit .i1 (.reg .l)
  | .bit1AtHL => bit .i1 .atHL
  | .bit1A => bit .i1 (.reg .a)
  | .bit2B => bit .i2 (.reg .b)
  | .bit2C => bit .i2 (.reg .c)
  | .bit2D => bit .i2 (.reg .d)
  | .bit2E => bit .i2 (.reg .e)
  | .bit2H => bit .i2 (.reg .h)
  | .bit2L => bit .i2 (.reg .l)
  | .bit2AtHL => bit .i2 .atHL
  | .bit2A => bit .i2 (.reg .a)
  | .bit3B => bit .i3 (.reg .b)
  | .bit3C => bit .i3 (.reg .c)
  | .bit3D => bit .i3 (.reg .d)
  | .bit3E => bit .i3 (.reg .e)
  | .bit3H => bit .i3 (.reg .h)
  | .bit3L => bit .i3 (.reg .l)
  | .bit3AtHL => bit .i3 .atHL
  | .bit3A => bit .i3 (.reg .a)
  | .bit4B => bit .i4 (.reg .b)
  | .bit4C => bit .i4 (.reg .c)
  | .bit4D => bit .i4 (.reg .d)
  | .bit4E => bit .i4 (.reg .e)
  | .bit4H => bit .i4 (.reg .h)
  | .bit4L => bit .i4 (.reg .l)
  | .bit4AtHL => bit .i4 .atHL
  | .bit4A => bit .i4 (.reg .a)
  | .bit5B => bit .i5 (.reg .b)
  | .bit5C => bit .i5 (.reg .c)
  | .bit5D => bit .i5 (.reg .d)
  | .bit5E => bit .i5 (.reg .e)
  | .bit5H => bit .i5 (.reg .h)
  | .bit5L => bit .i5 (.reg .l)
  | .bit5AtHL => bit .i5 .atHL
  | .bit5A => bit .i5 (.reg .a)
  | .bit6B => bit .i6 (.reg .b)
  | .bit6C => bit .i6 (.reg .c)
  | .bit6D => bit .i6 (.reg .d)
  | .bit6E => bit .i6 (.reg .e)
  | .bit6H => bit .i6 (.reg .h)
  | .bit6L => bit .i6 (.reg .l)
  | .bit6AtHL => bit .i6 .atHL
  | .bit6A => bit .i6 (.reg .a)
  | .bit7B => bit .i7 (.reg .b)
  | .bit7C => bit .i7 (.reg .c)
  | .bit7D => bit .i7 (.reg .d)
  | .bit7E => bit .i7 (.reg .e)
  | .bit7H => bit .i7 (.reg .h)
  | .bit7L => bit .i7 (.reg .l)
  | .bit7AtHL => bit .i7 .atHL
  | .bit7A => bit .i7 (.reg .a)
  | .res0B => res .i0 (.reg .b)
  | .res0C => res .i0 (.reg .c)
  | .res0D => res .i0 (.reg .d)
  | .res0E => res .i0 (.reg .e)
  | .res0H => res .i0 (.reg .h)
  | .res0L => res .i0 (.reg .l)
  | .res0AtHL => res .i0 .atHL
  | .res0A => res .i0 (.reg .a)
  | .res1B => res .i1 (.reg .b)
  | .res1C => res .i1 (.reg .c)
  | .res1D => res .i1 (.reg .d)
  | .res1E => res .i1 (.reg .e)
  | .res1H => res .i1 (.reg .h)
  | .res1L => res .i1 (.reg .l)
  | .res1AtHL => res .i1 .atHL
  | .res1A => res .i1 (.reg .a)
  | .res2B => res .i2 (.reg .b)
  | .res2C => res .i2 (.reg .c)
  | .res2D => res .i2 (.reg .d)
  | .res2E => res .i2 (.reg .e)
  | .res2H => res .i2 (.reg .h)
  | .res2L => res .i2 (.reg .l)
  | .res2AtHL => res .i2 .atHL
  | .res2A => res .i2 (.reg .a)
  | .res3B => res .i3 (.reg .b)
  | .res3C => res .i3 (.reg .c)
  | .res3D => res .i3 (.reg .d)
  | .res3E => res .i3 (.reg .e)
  | .res3H => res .i3 (.reg .h)
  | .res3L => res .i3 (.reg .l)
  | .res3AtHL => res .i3 .atHL
  | .res3A => res .i3 (.reg .a)
  | .res4B => res .i4 (.reg .b)
  | .res4C => res .i4 (.reg .c)
  | .res4D => res .i4 (.reg .d)
  | .res4E => res .i4 (.reg .e)
  | .res4H => res .i4 (.reg .h)
  | .res4L => res .i4 (.reg .l)
  | .res4AtHL => res .i4 .atHL
  | .res4A => res .i4 (.reg .a)
  | .res5B => res .i5 (.reg .b)
  | .res5C => res .i5 (.reg .c)
  | .res5D => res .i5 (.reg .d)
  | .res5E => res .i5 (.reg .e)
  | .res5H => res .i5 (.reg .h)
  | .res5L => res .i5 (.reg .l)
  | .res5AtHL => res .i5 .atHL
  | .res5A => res .i5 (.reg .a)
  | .res6B => res .i6 (.reg .b)
  | .res6C => res .i6 (.reg .c)
  | .res6D => res .i6 (.reg .d)
  | .res6E => res .i6 (.reg .e)
  | .res6H => res .i6 (.reg .h)
  | .res6L => res .i6 (.reg .l)
  | .res6AtHL => res .i6 .atHL
  | .res6A => res .i6 (.reg .a)
  | .res7B => res .i7 (.reg .b)
  | .res7C => res .i7 (.reg .c)
  | .res7D => res .i7 (.reg .d)
  | .res7E => res .i7 (.reg .e)
  | .res7H => res .i7 (.reg .h)
  | .res7L => res .i7 (.reg .l)
  | .res7AtHL => res .i7 .atHL
  | .res7A => res .i7 (.reg .a)
  | .set0B => set .i0 (.reg .b)
  | .set0C => set .i0 (.reg .c)
  | .set0D => set .i0 (.reg .d)
  | .set0E => set .i0 (.reg .e)
  | .set0H => set .i0 (.reg .h)
  | .set0L => set .i0 (.reg .l)
  | .set0AtHL => set .i0 .atHL
  | .set0A => set .i0 (.reg .a)
  | .set1B => set .i1 (.reg .b)
  | .set1C => set .i1 (.reg .c)
  | .set1D => set .i1 (.reg .d)
  | .set1E => set .i1 (.reg .e)
  | .set1H => set .i1 (.reg .h)
  | .set1L => set .i1 (.reg .l)
  | .set1AtHL => set .i1 .atHL
  | .set1A => set .i1 (.reg .a)
  | .set2B => set .i2 (.reg .b)
  | .set2C => set .i2 (.reg .c)
  | .set2D => set .i2 (.reg .d)
  | .set2E => set .i2 (.reg .e)
  | .set2H => set .i2 (.reg .h)
  | .set2L => set .i2 (.reg .l)
  | .set2AtHL => set .i2 .atHL
  | .set2A => set .i2 (.reg .a)
  | .set3B => set .i3 (.reg .b)
  | .set3C => set .i3 (.reg .c)
  | .set3D => set .i3 (.reg .d)
  | .set3E => set .i3 (.reg .e)
  | .set3H => set .i3 (.reg .h)
  | .set3L => set .i3 (.reg .l)
  | .set3AtHL => set .i3 .atHL
  | .set3A => set .i3 (.reg .a)
  | .set4B => set .i4 (.reg .b)
  | .set4C => set .i4 (.reg .c)
  | .set4D => set .i4 (.reg .d)
  | .set4E => set .i4 (.reg .e)
  | .set4H => set .i4 (.reg .h)
  | .set4L => set .i4 (.reg .l)
  | .set4AtHL => set .i4 .atHL
  | .set4A => set .i4 (.reg .a)
  | .set5B => set .i5 (.reg .b)
  | .set5C => set .i5 (.reg .c)
  | .set5D => set .i5 (.reg .d)
  | .set5E => set .i5 (.reg .e)
  | .set5H => set .i5 (.reg .h)
  | .set5L => set .i5 (.reg .l)
  | .set5AtHL => set .i5 .atHL
  | .set5A => set .i5 (.reg .a)
  | .set6B => set .i6 (.reg .b)
  | .set6C => set .i6 (.reg .c)
  | .set6D => set .i6 (.reg .d)
  | .set6E => set .i6 (.reg .e)
  | .set6H => set .i6 (.reg .h)
  | .set6L => set .i6 (.reg .l)
  | .set6AtHL => set .i6 .atHL
  | .set6A => set .i6 (.reg .a)
  | .set7B => set .i7 (.reg .b)
  | .set7C => set .i7 (.reg .c)
  | .set7D => set .i7 (.reg .d)
  | .set7E => set .i7 (.reg .e)
  | .set7H => set .i7 (.reg .h)
  | .set7L => set .i7 (.reg .l)
  | .set7AtHL => set .i7 .atHL
  | .set7A => set .i7 (.reg .a)

namespace Machine

open Host

variable (s : State)

/-! ### `exec` by family -/

theorem exec_ldInstr_reg_reg (dst r : Reg8) : exec (ldInstr (.reg dst) (.reg r)) s = instr 4 (loadR8 (.reg dst) (.reg r)) s := by
  cases dst <;> cases r <;> rfl

theorem exec_ldInstr_reg_atHL (dst : Reg8) : exec (ldInstr (.reg dst) .atHL) s = instr 8 (loadR8 (.reg dst) (.mem s.hl)) s := by
  cases dst <;> rfl

theorem exec_ldInstr_atHL_reg (r : Reg8) : exec (ldInstr .atHL (.reg r)) s = instr 8 (loadR8 (.mem s.hl) (.reg r)) s := by
  cases r <;> rfl

theorem exec_ldInstr_atHL_atHL  : exec (ldInstr .atHL .atHL) s = settle s (.error (.unimplemented 0x76 s.pc)) := by
  rfl

theorem exec_ldImmInstr_reg (dst : Reg8) (n : Byte) : exec (ldImmInstr (.reg dst) n) s = instr 8 (loadImm (.reg dst) n) s := by
  cases dst <;> rfl

theorem exec_ldImmInstr_atHL (n : Byte) : exec (ldImmInstr .atHL n) s = instr 12 (loadImm (.mem s.hl) n) s := by
  rfl

theorem exec_incInstr_reg (r : Reg8) : exec (incInstr (.reg r)) s = instr 4 (incR8 (.reg r)) s := by
  cases r <;> rfl

theorem exec_incInstr_atHL  : exec (incInstr .atHL) s = instr 12 (incR8 (.mem s.hl)) s := by
  rfl

theorem exec_decInstr_reg (r : Reg8) : exec (decInstr (.reg r)) s = instr 4 (decR8 (.reg r)) s := by
  cases r <;> rfl

theorem exec_decInstr_atHL  : exec (decInstr .atHL) s = instr 12 (decR8 (.mem s.hl)) s := by
  rfl

theorem exec_aluInstr_reg (op : AluOp) (r : Reg8) : exec (aluInstr op (.reg r)) s = instr 4 (aluR8 op (.reg r)) s := by
  cases op <;> cases r <;> rfl

theorem exec_aluInstr_atHL (op : AluOp) : exec (aluInstr op .atHL) s = instr 8 (aluR8 op (.mem s.hl)) s := by
  cases op <;> rfl

theorem exec_aluImmInstr (op : AluOp) (n : Byte) : exec (aluImmInstr op n) s = instr 8 (aluImm op n) s := by
  cases op <;> rfl

theorem exec_ldPairInstr (p : Pair) (nn : Word) : exec (ldPairInstr p nn) s = instr 12 (loadPairImm p nn) s := by
  cases p <;> rfl

theorem exec_addHlInstr (p : Pair) : exec (addHlInstr p) s = instr 8 (addHL p) s := by
  cases p <;> rfl

theorem exec_incPairInstr (p : Pair) : exec (incPairInstr p) s = instr 8 (incPair p) s := by
  cases p <;> rfl

theorem exec_decPairInstr (p : Pair) : exec (decPairInstr p) s = instr 8 (decPair p) s := by
  cases p <;> rfl

theorem exec_popInstr (q : StackPair) : exec (popInstr q) s = instr 12 (popPair q) s := by
  cases q <;> rfl

theorem exec_pushInstr (q : StackPair) : exec (pushInstr q) s = instr 16 (pushPair q) s := by
  cases q <;> rfl

theorem exec_rstInstr (t : Idx3) : exec (rstInstr t) s = instr 16 (restart t) s := by
  cases t <;> rfl

theorem exec_jrCcInstr (cc : Cond) (e : Byte) : exec (jrCcInstr cc e) s = instrIf (s.cond cc) 12 8 (jumpRel e) (skip 2) s := by
  cases cc <;> rfl

theorem exec_retCcInstr (cc : Cond) : exec (retCcInstr cc) s = instrIf (s.cond cc) 20 8 returnBody (skip 1) s := by
  cases cc <;> rfl

theorem exec_jpCcInstr (cc : Cond) (nn : Word) : exec (jpCcInstr cc nn) s = instrIf (s.cond cc) 16 12 (jumpTo nn) (skip 3) s := by
  cases cc <;> rfl

theorem exec_callCcInstr (cc : Cond) (nn : Word) : exec (callCcInstr cc nn) s = instrIf (s.cond cc) 24 12 (callTo nn) (skip 3) s := by
  cases cc <;> rfl

theorem exec_rotInstr_reg (op : RotOp) (r : Reg8) : exec (rotInstr op (.reg r)) s = instr 8 (rotR8 op (.reg r)) s := by
  cases op <;> cases r <;> rfl

theorem exec_rotInstr_atHL (op : RotOp) : exec (rotInstr op .atHL) s = instr 16 (rotR8 op (.mem s.hl)) s := by
  cases op <;> rfl

theorem exec_bitInstr_reg (b : Idx3) (r : Reg8) : exec (bitInstr b (.reg r)) s = instr 8 (bitR8 b (.reg r)) s := by
  cases b <;> cases r <;> rfl

theorem exec_bitInstr_atHL (b : Idx3) : exec (bitInstr b .atHL) s = instr 12 (bitR8 b (.mem s.hl)) s := by
  cases b <;> rfl

theorem exec_resInstr_reg (b : Idx3) (r : Reg8) : exec (resInstr b (.reg r)) s = instr 8 (resR8 b (.reg r)) s := by
  cases b <;> cases r <;> rfl

theorem exec_resInstr_atHL (b : Idx3) : exec (resInstr b .atHL) s = instr 16 (resR8 b (.mem s.hl)) s := by
  cases b <;> rfl

theorem exec_setInstr_reg (b : Idx3) (r : Reg8) : exec (setInstr b (.reg r)) s = instr 8 (setBitR8 b (.reg r)) s := by
  cases b <;> cases r <;> rfl

theorem exec_setInstr_atHL (b : Idx3) : exec (setInstr b .atHL) s = instr 16 (setBitR8 b (.mem s.hl)) s := by
  cases b <;> rfl

end Machine

end Sys2Proof
end

