-- ==== Sys2Proof/Laws/State.lean ====
section
/-! SUPPORT. The record laws of the state's named updates: one lemma per field per update, so that no proof unfolds a record
update. -/

namespace Sys2Proof.Machine

variable (s : State)

/-! ### `State.setFByte` -/

@[simp] theorem State.setFByte_a (v : Byte) : (s.setFByte v).a = s.a := rfl
@[simp] theorem State.setFByte_b (v : Byte) : (s.setFByte v).b = s.b := rfl
@[simp] theorem State.setFByte_c (v : Byte) : (s.setFByte v).c = s.c := rfl
@[simp] theorem State.setFByte_d (v : Byte) : (s.setFByte v).d = s.d := rfl
@[simp] theorem State.setFByte_e (v : Byte) : (s.setFByte v).e = s.e := rfl
@[simp] theorem State.setFByte_h (v : Byte) : (s.setFByte v).h = s.h := rfl
@[simp] theorem State.setFByte_l (v : Byte) : (s.setFByte v).l = s.l := rfl
@[simp] theorem State.setFByte_flagZ (v : Byte) : (s.setFByte v).flagZ = v.getLsbD 7 := rfl
@[simp] theorem State.setFByte_flagN (v : Byte) : (s.setFByte v).flagN = v.getLsbD 6 := rfl
@[simp] theorem State.setFByte_flagH (v : Byte) : (s.setFByte v).flagH = v.getLsbD 5 := rfl
@[simp] theorem State.setFByte_flagC (v : Byte) : (s.setFByte v).flagC = v.getLsbD 4 := rfl
@[simp] theorem State.setFByte_sp (v : Byte) : (s.setFByte v).sp = s.sp := rfl
@[simp] theorem State.setFByte_pc (v : Byte) : (s.setFByte v).pc = s.pc := rfl
@[simp] theorem State.setFByte_ime (v : Byte) : (s.setFByte v).ime = s.ime := rfl
@[simp] theorem State.setFByte_imeNext (v : Byte) : (s.setFByte v).imeNext = s.imeNext := rfl
@[simp] theorem State.setFByte_cycles (v : Byte) : (s.setFByte v).cycles = s.cycles := rfl
@[simp] theorem State.setFByte_mem (v : Byte) : (s.setFByte v).mem = s.mem := rfl
@[simp] theorem State.setFByte_ie (v : Byte) : (s.setFByte v).ie = s.ie := rfl
@[simp] theorem State.setFByte_run (v : Byte) : (s.setFByte v).run = s.run := rfl
@[simp] theorem State.setFByte_cfg (v : Byte) : (s.setFByte v).cfg = s.cfg := rfl

/-! ### `State.setFlags` -/

@[simp] theorem State.setFlags_a (z n h c : Bool) : (s.setFlags z n h c).a = s.a := rfl
@[simp] theorem State.setFlags_b (z n h c : Bool) : (s.setFlags z n h c).b = s.b := rfl
@[simp] theorem State.setFlags_c (z n h c : Bool) : (s.setFlags z n h c).c = s.c := rfl
@[simp] theorem State.setFlags_d (z n h c : Bool) : (s.setFlags z n h c).d = s.d := rfl
@[simp] theorem State.setFlags_e (z n h c : Bool) : (s.setFlags z n h c).e = s.e := rfl
@[simp] theorem State.setFlags_h (z n h c : Bool) : (s.setFlags z n h c).h = s.h := rfl
@[simp] theorem State.setFlags_l (z n h c : Bool) : (s.setFlags z n h c).l = s.l := rfl
@[simp] theorem State.setFlags_flagZ (z n h c : Bool) : (s.setFlags z n h c).flagZ = z := rfl
@[simp] theorem State.setFlags_flagN (z n h c : Bool) : (s.setFlags z n h c).flagN = n := rfl
@[simp] theorem State.setFlags_flagH (z n h c : Bool) : (s.setFlags z n h c).flagH = h := rfl
@[simp] theorem State.setFlags_flagC (z n h c : Bool) : (s.setFlags z n h c).flagC = c := rfl
@[simp] theorem State.setFlags_sp (z n h c : Bool) : (s.setFlags z n h c).sp = s.sp := rfl
@[simp] theorem State.setFlags_pc (z n h c : Bool) : (s.setFlags z n h c).pc = s.pc := rfl
@[simp] theorem State.setFlags_ime (z n h c : Bool) : (s.setFlags z n h c).ime = s.ime := rfl
@[simp] theorem State.setFlags_imeNext (z n h c : Bool) : (s.setFlags z n h c).imeNext = s.imeNext := rfl
@[simp] theorem State.setFlags_cycles (z n h c : Bool) : (s.setFlags z n h c).cycles = s.cycles := rfl
@[simp] theorem State.setFlags_mem (z n h c : Bool) : (s.setFlags z n h c).mem = s.mem := rfl
@[simp] theorem State.setFlags_ie (z n h c : Bool) : (s.setFlags z n h c).ie = s.ie := rfl
@[simp] theorem State.setFlags_run (z n h c : Bool) : (s.setFlags z n h c).run = s.run := rfl
@[simp] theorem State.setFlags_cfg (z n h c : Bool) : (s.setFlags z n h c).cfg = s.cfg := rfl

/-! ### `State.setZNH` -/

@[simp] theorem State.setZNH_a (z n h : Bool) : (s.setZNH z n h).a = s.a := rfl
@[simp] theorem State.setZNH_b (z n h : Bool) : (s.setZNH z n h).b = s.b := rfl
@[simp] theorem State.setZNH_c (z n h : Bool) : (s.setZNH z n h).c = s.c := rfl
@[simp] theorem State.setZNH_d (z n h : Bool) : (s.setZNH z n h).d = s.d := rfl
@[simp] theorem State.setZNH_e (z n h : Bool) : (s.setZNH z n h).e = s.e := rfl
@[simp] theorem State.setZNH_h (z n h : Bool) : (s.setZNH z n h).h = s.h := rfl
@[simp] theorem State.setZNH_l (z n h : Bool) : (s.setZNH z n h).l = s.l := rfl
@[simp] theorem State.setZNH_flagZ (z n h : Bool) : (s.setZNH z n h).flagZ = z := rfl
@[simp] theorem State.setZNH_flagN (z n h : Bool) : (s.setZNH z n h).flagN = n := rfl
@[simp] theorem State.setZNH_flagH (z n h : Bool) : (s.setZNH z n h).flagH = h := rfl
@[simp] theorem State.setZNH_flagC (z n h : Bool) : (s.setZNH z n h).flagC = s.flagC := rfl
@[simp] theorem State.setZNH_sp (z n h : Bool) : (s.setZNH z n h).sp = s.sp := rfl
@[simp] theorem State.setZNH_pc (z n h : Bool) : (s.setZNH z n h).pc = s.pc := rfl
@[simp] theorem State.setZNH_ime (z n h : Bool) : (s.setZNH z n h).ime = s.ime := rfl
@[simp] theorem State.setZNH_imeNext (z n h : Bool) : (s.setZNH z n h).imeNext = s.imeNext := rfl
@[simp] theorem State.setZNH_cycles (z n h : Bool) : (s.setZNH z n h).cycles = s.cycles := rfl
@[simp] theorem State.setZNH_mem (z n h : Bool) : (s.setZNH z n h).mem = s.mem := rfl
@[simp] theorem State.setZNH_ie (z n h : Bool) : (s.setZNH z n h).ie = s.ie := rfl
@[simp] theorem State.setZNH_run (z n h : Bool) : (s.setZNH z n h).run = s.run := rfl
@[simp] theorem State.setZNH_cfg (z n h : Bool) : (s.setZNH z n h).cfg = s.cfg := rfl

/-! ### `State.setNHC` -/

@[simp] theorem State.setNHC_a (n h c : Bool) : (s.setNHC n h c).a = s.a := rfl
@[simp] theorem State.setNHC_b (n h c : Bool) : (s.setNHC n h c).b = s.b := rfl
@[simp] theorem State.setNHC_c (n h c : Bool) : (s.setNHC n h c).c = s.c := rfl
@[simp] theorem State.setNHC_d (n h c : Bool) : (s.setNHC n h c).d = s.d := rfl
@[simp] theorem State.setNHC_e (n h c : Bool) : (s.setNHC n h c).e = s.e := rfl
@[simp] theorem State.setNHC_h (n h c : Bool) : (s.setNHC n h c).h = s.h := rfl
@[simp] theorem State.setNHC_l (n h c : Bool) : (s.setNHC n h c).l = s.l := rfl
@[simp] theorem State.setNHC_flagZ (n h c : Bool) : (s.setNHC n h c).flagZ = s.flagZ := rfl
@[simp] theorem State.setNHC_flagN (n h c : Bool) : (s.setNHC n h c).flagN = n := rfl
@[simp] theorem State.setNHC_flagH (n h c : Bool) : (s.setNHC n h c).flagH = h := rfl
@[simp] theorem State.setNHC_flagC (n h c : Bool) : (s.setNHC n h c).flagC = c := rfl
@[simp] theorem State.setNHC_sp (n h c : Bool) : (s.setNHC n h c).sp = s.sp := rfl
@[simp] theorem State.setNHC_pc (n h c : Bool) : (s.setNHC n h c).pc = s.pc := rfl
@[simp] theorem State.setNHC_ime (n h c : Bool) : (s.setNHC n h c).ime = s.ime := rfl
@[simp] theorem State.setNHC_imeNext (n h c : Bool) : (s.setNHC n h c).imeNext = s.imeNext := rfl
@[simp] theorem State.setNHC_cycles (n h c : Bool) : (s.setNHC n h c).cycles = s.cycles := rfl
@[simp] theorem State.setNHC_mem (n h c : Bool) : (s.setNHC n h c).mem = s.mem := rfl
@[simp] theorem State.setNHC_ie (n h c : Bool) : (s.setNHC n h c).ie = s.ie := rfl
@[simp] theorem State.setNHC_run (n h c : Bool) : (s.setNHC n h c).run = s.run := rfl
@[simp] theorem State.setNHC_cfg (n h c : Bool) : (s.setNHC n h c).cfg = s.cfg := rfl

/-! ### `State.setBC` -/

@[simp] theorem State.setBC_a (v : Word) : (s.setBC v).a = s.a := rfl
@[simp] theorem State.setBC_b (v : Word) : (s.setBC v).b = hi8 v := rfl
@[simp] theorem State.setBC_c (v : Word) : (s.setBC v).c = lo8 v := rfl
@[simp] theorem State.setBC_d (v : Word) : (s.setBC v).d = s.d := rfl
@[simp] theorem State.setBC_e (v : Word) : (s.setBC v).e = s.e := rfl
@[simp] theorem State.setBC_h (v : Word) : (s.setBC v).h = s.h := rfl
@[simp] theorem State.setBC_l (v : Word) : (s.setBC v).l = s.l := rfl
@[simp] theorem State.setBC_flagZ (v : Word) : (s.setBC v).flagZ = s.flagZ := rfl
@[simp] theorem State.setBC_flagN (v : Word) : (s.setBC v).flagN = s.flagN := rfl
@[simp] theorem State.setBC_flagH (v : Word) : (s.setBC v).flagH = s.flagH := rfl
@[simp] theorem State.setBC_flagC (v : Word) : (s.setBC v).flagC = s.flagC := rfl
@[simp] theorem State.setBC_sp (v : Word) : (s.setBC v).sp = s.sp := rfl
@[simp] theorem State.setBC_pc (v : Word) : (s.setBC v).pc = s.pc := rfl
@[simp] theorem State.setBC_ime (v : Word) : (s.setBC v).ime = s.ime := rfl
@[simp] theorem State.setBC_imeNext (v : Word) : (s.setBC v).imeNext = s.imeNext := rfl
@[simp] theorem State.setBC_cycles (v : Word) : (s.setBC v).cycles = s.cycles := rfl
@[simp] theorem State.setBC_mem (v : Word) : (s.setBC v).mem = s.mem := rfl
@[simp] theorem State.setBC_ie (v : Word) : (s.setBC v).ie = s.ie := rfl
@[simp] theorem State.setBC_run (v : Word) : (s.setBC v).run = s.run := rfl
@[simp] theorem State.setBC_cfg (v : Word) : (s.setBC v).cfg = s.cfg := rfl

/-! ### `State.setDE` -/

@[simp] theorem State.setDE_a (v : Word) : (s.setDE v).a = s.a := rfl
@[simp] theorem State.setDE_b (v : Word) : (s.setDE v).b = s.b := rfl
@[simp] theorem State.setDE_c (v : Word) : (s.setDE v).c = s.c := rfl
@[simp] theorem State.setDE_d (v : Word) : (s.setDE v).d = hi8 v := rfl
@[simp] theorem State.setDE_e (v : Word) : (s.setDE v).e = lo8 v := rfl
@[simp] theorem State.setDE_h (v : Word) : (s.setDE v).h = s.h := rfl
@[simp] theorem State.setDE_l (v : Word) : (s.setDE v).l = s.l := rfl
@[simp] theorem State.setDE_flagZ (v : Word) : (s.setDE v).flagZ = s.flagZ := rfl
@[simp] theorem State.setDE_flagN (v : Word) : (s.setDE v).flagN = s.flagN := rfl
@[simp] theorem State.setDE_flagH (v : Word) : (s.setDE v).flagH = s.flagH := rfl
@[simp] theorem State.setDE_flagC (v : Word) : (s.setDE v).flagC = s.flagC := rfl
@[simp] theorem State.setDE_sp (v : Word) : (s.setDE v).sp = s.sp := rfl
@[simp] theorem State.setDE_pc (v : Word) : (s.setDE v).pc = s.pc := rfl
@[simp] theorem State.setDE_ime (v : Word) : (s.setDE v).ime = s.ime := rfl
@[simp] theorem State.setDE_imeNext (v : Word) : (s.setDE v).imeNext = s.imeNext := rfl
@[simp] theorem State.setDE_cycles (v : Word) : (s.setDE v).cycles = s.cycles := rfl
@[simp] theorem State.setDE_mem (v : Word) : (s.setDE v).mem = s.mem := rfl
@[simp] theorem State.setDE_ie (v : Word) : (s.setDE v).ie = s.ie := rfl
@[simp] theorem State.setDE_run (v : Word) : (s.setDE v).run = s.run := rfl
@[simp] theorem State.setDE_cfg (v : Word) : (s.setDE v).cfg = s.cfg := rfl

/-! ### `State.setHL` -/

@[simp] theorem State.setHL_a (v : Word) : (s.setHL v).a = s.a := rfl
@[simp] theorem State.setHL_b (v : Word) : (s.setHL v).b = s.b := rfl
@[simp] theorem State.setHL_c (v : Word) : (s.setHL v).c = s.c := rfl
@[simp] theorem State.setHL_d (v : Word) : (s.setHL v).d = s.d := rfl
@[simp] theorem State.setHL_e (v : Word) : (s.setHL v).e = s.e := rfl
@[simp] theorem State.setHL_h (v : Word) : (s.setHL v).h = hi8 v := rfl
@[simp] theorem State.setHL_l (v : Word) : (s.setHL v).l = lo8 v := rfl
@[simp] theorem State.setHL_flagZ (v : Word) : (s.setHL v).flagZ = s.flagZ := rfl
@[simp] theorem State.setHL_flagN (v : Word) : (s.setHL v).flagN = s.flagN := rfl
@[simp] theorem State.setHL_flagH (v : Word) : (s.setHL v).flagH = s.flagH := rfl
@[simp] theorem State.setHL_flagC (v : Word) : (s.setHL v).flagC = s.flagC := rfl
@[simp] theorem State.setHL_sp (v : Word) : (s.setHL v).sp = s.sp := rfl
@[simp] theorem State.setHL_pc (v : Word) : (s.setHL v).pc = s.pc := rfl
@[simp] theorem State.setHL_ime (v : Word) : (s.setHL v).ime = s.ime := rfl
@[simp] theorem State.setHL_imeNext (v : Word) : (s.setHL v).imeNext = s.imeNext := rfl
@[simp] theorem State.setHL_cycles (v : Word) : (s.setHL v).cycles = s.cycles := rfl
@[simp] theorem State.setHL_mem (v : Word) : (s.setHL v).mem = s.mem := rfl
@[simp] theorem State.setHL_ie (v : Word) : (s.setHL v).ie = s.ie := rfl
@[simp] theorem State.setHL_run (v : Word) : (s.setHL v).run = s.run := rfl
@[simp] theorem State.setHL_cfg (v : Word) : (s.setHL v).cfg = s.cfg := rfl

/-! ### `State.setAF` -/

@[simp] theorem State.setAF_a (v : Word) : (s.setAF v).a = hi8 v := rfl
@[simp] theorem State.setAF_b (v : Word) : (s.setAF v).b = s.b := rfl
@[simp] theorem State.setAF_c (v : Word) : (s.setAF v).c = s.c := rfl
@[simp] theorem State.setAF_d (v : Word) : (s.setAF v).d = s.d := rfl
@[simp] theorem State.setAF_e (v : Word) : (s.setAF v).e = s.e := rfl
@[simp] theorem State.setAF_h (v : Word) : (s.setAF v).h = s.h := rfl
@[simp] theorem State.setAF_l (v : Word) : (s.setAF v).l = s.l := rfl
@[simp] theorem State.setAF_flagZ (v : Word) : (s.setAF v).flagZ = (lo8 v).getLsbD 7 := rfl
@[simp] theorem State.setAF_flagN (v : Word) : (s.setAF v).flagN = (lo8 v).getLsbD 6 := rfl
@[simp] theorem State.setAF_flagH (v : Word) : (s.setAF v).flagH = (lo8 v).getLsbD 5 := rfl
@[simp] theorem State.setAF_flagC (v : Word) : (s.setAF v).flagC = (lo8 v).getLsbD 4 := rfl
@[simp] theorem State.setAF_sp (v : Word) : (s.setAF v).sp = s.sp := rfl
@[simp] theorem State.setAF_pc (v : Word) : (s.setAF v).pc = s.pc := rfl
@[simp] theorem State.setAF_ime (v : Word) : (s.setAF v).ime = s.ime := rfl
@[simp] theorem State.setAF_imeNext (v : Word) : (s.setAF v).imeNext = s.imeNext := rfl
@[simp] theorem State.setAF_cycles (v : Word) : (s.setAF v).cycles = s.cycles := rfl
@[simp] theorem State.setAF_mem (v : Word) : (s.setAF v).mem = s.mem := rfl
@[simp] theorem State.setAF_ie (v : Word) : (s.setAF v).ie = s.ie := rfl
@[simp] theorem State.setAF_run (v : Word) : (s.setAF v).run = s.run := rfl
@[simp] theorem State.setAF_cfg (v : Word) : (s.setAF v).cfg = s.cfg := rfl

/-! ### `State.setSP` -/

@[simp] theorem State.setSP_a (v : Word) : (s.setSP v).a = s.a := rfl
@[simp] theorem State.setSP_b (v : Word) : (s.setSP v).b = s.b := rfl
@[simp] theorem State.setSP_c (v : Word) : (s.setSP v).c = s.c := rfl
@[simp] theorem State.setSP_d (v : Word) : (s.setSP v).d = s.d := rfl
@[simp] theorem State.setSP_e (v : Word) : (s.setSP v).e = s.e := rfl
@[simp] theorem State.setSP_h (v : Word) : (s.setSP v).h = s.h := rfl
@[simp] theorem State.setSP_l (v : Word) : (s.setSP v).l = s.l := rfl
@[simp] theorem State.setSP_flagZ (v : Word) : (s.setSP v).flagZ = s.flagZ := rfl
@[simp] theorem State.setSP_flagN (v : Word) : (s.setSP v).flagN = s.flagN := rfl
@[simp] theorem State.setSP_flagH (v : Word) : (s.setSP v).flagH = s.flagH := rfl
@[simp] theorem State.setSP_flagC (v : Word) : (s.setSP v).flagC = s.flagC := rfl
@[simp] theorem State.setSP_sp (v : Word) : (s.setSP v).sp = v := rfl
@[simp] theorem State.setSP_pc (v : Word) : (s.setSP v).pc = s.pc := rfl
@[simp] theorem State.setSP_ime (v : Word) : (s.setSP v).ime = s.ime := rfl
@[simp] theorem State.setSP_imeNext (v : Word) : (s.setSP v).imeNext = s.imeNext := rfl
@[simp] theorem State.setSP_cycles (v : Word) : (s.setSP v).cycles = s.cycles := rfl
@[simp] theorem State.setSP_mem (v : Word) : (s.setSP v).mem = s.mem := rfl
@[simp] theorem State.setSP_ie (v : Word) : (s.setSP v).ie = s.ie := rfl
@[simp] theorem State.setSP_run (v : Word) : (s.setSP v).run = s.run := rfl
@[simp] theorem State.setSP_cfg (v : Word) : (s.setSP v).cfg = s.cfg := rfl

/-! ### `State.setPC` -/

@[simp] theorem State.setPC_a (v : Word) : (s.setPC v).a = s.a := rfl
@[simp] theorem State.setPC_b (v : Word) : (s.setPC v).b = s.b := rfl
@[simp] theorem State.setPC_c (v : Word) : (s.setPC v).c = s.c := rfl
@[simp] theorem State.setPC_d (v : Word) : (s.setPC v).d = s.d := rfl
@[simp] theorem State.setPC_e (v : Word) : (s.setPC v).e = s.e := rfl
@[simp] theorem State.setPC_h (v : Word) : (s.setPC v).h = s.h := rfl
@[simp] theorem State.setPC_l (v : Word) : (s.setPC v).l = s.l := rfl
@[simp] theorem State.setPC_flagZ (v : Word) : (s.setPC v).flagZ = s.flagZ := rfl
@[simp] theorem State.setPC_flagN (v : Word) : (s.setPC v).flagN = s.flagN := rfl
@[simp] theorem State.setPC_flagH (v : Word) : (s.setPC v).flagH = s.flagH := rfl
@[simp] theorem State.setPC_flagC (v : Word) : (s.setPC v).flagC = s.flagC := rfl
@[simp] theorem State.setPC_sp (v : Word) : (s.setPC v).sp = s.sp := rfl
@[simp] theorem State.setPC_pc (v : Word) : (s.setPC v).pc = v := rfl
@[simp] theorem State.setPC_ime (v : Word) : (s.setPC v).ime = s.ime := rfl
@[simp] theorem State.setPC_imeNext (v : Word) : (s.setPC v).imeNext = s.imeNext := rfl
@[simp] theorem State.setPC_cycles (v : Word) : (s.setPC v).cycles = s.cycles := rfl
@[simp] theorem State.setPC_mem (v : Word) : (s.setPC v).mem = s.mem := rfl
@[simp] theorem State.setPC_ie (v : Word) : (s.setPC v).ie = s.ie := rfl
@[simp] theorem State.setPC_run (v : Word) : (s.setPC v).run = s.run := rfl
@[simp] theorem State.setPC_cfg (v : Word) : (s.setPC v).cfg = s.cfg := rfl

/-! ### `State.advance` -/

@[simp] theorem State.advance_a (v : Word) : (s.advance v).a = s.a := rfl
@[simp] theorem State.advance_b (v : Word) : (s.advance v).b = s.b := rfl
@[simp] theorem State.advance_c (v : Word) : (s.advance v).c = s.c := rfl
@[simp] theorem State.advance_d (v : Word) : (s.advance v).d = s.d := rfl
@[simp] theorem State.advance_e (v : Word) : (s.advance v).e = s.e := rfl
@[simp] theorem State.advance_h (v : Word) : (s.advance v).h = s.h := rfl
@[simp] theorem State.advance_l (v : Word) : (s.advance v).l = s.l := rfl
@[simp] theorem State.advance_flagZ (v : Word) : (s.advance v).flagZ = s.flagZ := rfl
@[simp] theorem State.advance_flagN (v : Word) : (s.advance v).flagN = s.flagN := rfl
@[simp] theorem State.advance_flagH (v : Word) : (s.advance v).flagH = s.flagH := rfl
@[simp] theorem State.advance_flagC (v : Word) : (s.advance v).flagC = s.flagC := rfl
@[simp] theorem State.advance_sp (v : Word) : (s.advance v).sp = s.sp := rfl
@[simp] theorem State.advance_pc (v : Word) : (s.advance v).pc = s.pc + v := rfl
@[simp] theorem State.advance_ime (v : Word) : (s.advance v).ime = s.ime := rfl
@[simp] theorem State.advance_imeNext (v : Word) : (s.advance v).imeNext = s.imeNext := rfl
@[simp] theorem State.advance_cycles (v : Word) : (s.advance v).cycles = s.cycles := rfl
@[simp] theorem State.advance_mem (v : Word) : (s.advance v).mem = s.mem := rfl
@[simp] theorem State.advance_ie (v : Word) : (s.advance v).ie = s.ie := rfl
@[simp] theorem State.advance_run (v : Word) : (s.advance v).run = s.run := rfl
@[simp] theorem State.advance_cfg (v : Word) : (s.advance v).cfg = s.cfg := rfl

/-! ### `State.setIme` -/

@[simp] theorem State.setIme_a (v : Bool) : (s.setIme v).a = s.a := rfl
@[simp] theorem State.setIme_b (v : Bool) : (s.setIme v).b = s.b := rfl
@[simp] theorem State.setIme_c (v : Bool) : (s.setIme v).c = s.c := rfl
@[simp] theorem State.setIme_d (v : Bool) : (s.setIme v).d = s.d := rfl
@[simp] theorem State.setIme_e (v : Bool) : (s.setIme v).e = s.e := rfl
@[simp] theorem State.setIme_h (v : Bool) : (s.setIme v).h = s.h := rfl
@[simp] theorem State.setIme_l (v : Bool) : (s.setIme v).l = s.l := rfl
@[simp] theorem State.setIme_flagZ (v : Bool) : (s.setIme v).flagZ = s.flagZ := rfl
@[simp] theorem State.setIme_flagN (v : Bool) : (s.setIme v).flagN = s.flagN := rfl
@[simp] theorem State.setIme_flagH (v : Bool) : (s.setIme v).flagH = s.flagH := rfl
@[simp] theorem State.setIme_flagC (v : Bool) : (s.setIme v).flagC = s.flagC := rfl
@[simp] theorem State.setIme_sp (v : Bool) : (s.setIme v).sp = s.sp := rfl
@[simp] theorem State.setIme_pc (v : Bool) : (s.setIme v).pc = s.pc := rfl
@[simp] theorem State.setIme_ime (v : Bool) : (s.setIme v).ime = v := rfl
@[simp] theorem State.setIme_imeNext (v : Bool) : (s.setIme v).imeNext = s.imeNext := rfl
@[simp] theorem State.setIme_cycles (v : Bool) : (s.setIme v).cycles = s.cycles := rfl
@[simp] theorem State.setIme_mem (v : Bool) : (s.setIme v).mem = s.mem := rfl
@[simp] theorem State.setIme_ie (v : Bool) : (s.setIme v).ie = s.ie := rfl
@[simp] theorem State.setIme_run (v : Bool) : (s.setIme v).run = s.run := rfl
@[simp] theorem State.setIme_cfg (v : Bool) : (s.setIme v).cfg = s.cfg := rfl

/-! ### `State.setImeNext` -/

@[simp] theorem State.setImeNext_a (v : Bool) : (s.setImeNext v).a = s.a := rfl
@[simp] theorem State.setImeNext_b (v : Bool) : (s.setImeNext v).b = s.b := rfl
@[simp] theorem State.setImeNext_c (v : Bool) : (s.setImeNext v).c = s.c := rfl
@[simp] theorem State.setImeNext_d (v : Bool) : (s.setImeNext v).d = s.d := rfl
@[simp] theorem State.setImeNext_e (v : Bool) : (s.setImeNext v).e = s.e := rfl
@[simp] theorem State.setImeNext_h (v : Bool) : (s.setImeNext v).h = s.h := rfl
@[simp] theorem State.setImeNext_l (v : Bool) : (s.setImeNext v).l = s.l := rfl
@[simp] theorem State.setImeNext_flagZ (v : Bool) : (s.setImeNext v).flagZ = s.flagZ := rfl
@[simp] theorem State.setImeNext_flagN (v : Bool) : (s.setImeNext v).flagN = s.flagN := rfl
@[simp] theorem State.setImeNext_flagH (v : Bool) : (s.setImeNext v).flagH = s.flagH := rfl
@[simp] theorem State.setImeNext_flagC (v : Bool) : (s.setImeNext v).flagC = s.flagC := rfl
@[simp] theorem State.setImeNext_sp (v : Bool) : (s.setImeNext v).sp = s.sp := rfl
@[simp] theorem State.setImeNext_pc (v : Bool) : (s.setImeNext v).pc = s.pc := rfl
@[simp] theorem State.setImeNext_ime (v : Bool) : (s.setImeNext v).ime = s.ime := rfl
@[simp] theorem State.setImeNext_imeNext (v : Bool) : (s.setImeNext v).imeNext = v := rfl
@[simp] theorem State.setImeNext_cycles (v : Bool) : (s.setImeNext v).cycles = s.cycles := rfl
@[simp] theorem State.setImeNext_mem (v : Bool) : (s.setImeNext v).mem = s.mem := rfl
@[simp] theorem State.setImeNext_ie (v : Bool) : (s.setImeNext v).ie = s.ie := rfl
@[simp] theorem State.setImeNext_run (v : Bool) : (s.setImeNext v).run = s.run := rfl
@[simp] theorem State.setImeNext_cfg (v : Bool) : (s.setImeNext v).cfg = s.cfg := rfl

/-! ### `State.setReg` and `State.getReg` -/

@[simp] theorem State.setReg_flagZ (r : Reg8) (v : Byte) : (s.setReg r v).flagZ = s.flagZ := by cases r <;> rfl
@[simp] theorem State.setReg_flagN (r : Reg8) (v : Byte) : (s.setReg r v).flagN = s.flagN := by cases r <;> rfl
@[simp] theorem State.setReg_flagH (r : Reg8) (v : Byte) : (s.setReg r v).flagH = s.flagH := by cases r <;> rfl
@[simp] theorem State.setReg_flagC (r : Reg8) (v : Byte) : (s.setReg r v).flagC = s.flagC := by cases r <;> rfl
@[simp] theorem State.setReg_sp (r : Reg8) (v : Byte) : (s.setReg r v).sp = s.sp := by cases r <;> rfl
@[simp] theorem State.setReg_pc (r : Reg8) (v : Byte) : (s.setReg r v).pc = s.pc := by cases r <;> rfl
@[simp] theorem State.setReg_ime (r : Reg8) (v : Byte) : (s.setReg r v).ime = s.ime := by cases r <;> rfl
@[simp] theorem State.setReg_imeNext (r : Reg8) (v : Byte) : (s.setReg r v).imeNext = s.imeNext := by cases r <;> rfl
@[simp] theorem State.setReg_cycles (r : Reg8) (v : Byte) : (s.setReg r v).cycles = s.cycles := by cases r <;> rfl
@[simp] theorem State.setReg_mem (r : Reg8) (v : Byte) : (s.setReg r v).mem = s.mem := by cases r <;> rfl
@[simp] theorem State.setReg_ie (r : Reg8) (v : Byte) : (s.setReg r v).ie = s.ie := by cases r <;> rfl
@[simp] theorem State.setReg_run (r : Reg8) (v : Byte) : (s.setReg r v).run = s.run := by cases r <;> rfl
@[simp] theorem State.setReg_cfg (r : Reg8) (v : Byte) : (s.setReg r v).cfg = s.cfg := by cases r <;> rfl

/-- A register reads back what was written to it, and keeps its value when another is written (R31, R38). -/
@[simp] theorem State.getReg_setReg (r q : Reg8) (v : Byte) : (s.setReg r v).getReg q = if r = q then v else s.getReg q := by
  cases r <;> cases q <;> rfl

@[simp] theorem State.getReg_a : s.getReg .a = s.a := rfl
@[simp] theorem State.getReg_b : s.getReg .b = s.b := rfl
@[simp] theorem State.getReg_c : s.getReg .c = s.c := rfl
@[simp] theorem State.getReg_d : s.getReg .d = s.d := rfl
@[simp] theorem State.getReg_e : s.getReg .e = s.e := rfl
@[simp] theorem State.getReg_h : s.getReg .h = s.h := rfl
@[simp] theorem State.getReg_l : s.getReg .l = s.l := rfl
theorem State.setReg_a (v : Byte) : s.setReg .a v = { s with a := v } := rfl
theorem State.setReg_b (v : Byte) : s.setReg .b v = { s with b := v } := rfl
theorem State.setReg_c (v : Byte) : s.setReg .c v = { s with c := v } := rfl
theorem State.setReg_d (v : Byte) : s.setReg .d v = { s with d := v } := rfl
theorem State.setReg_e (v : Byte) : s.setReg .e v = { s with e := v } := rfl
theorem State.setReg_h (v : Byte) : s.setReg .h v = { s with h := v } := rfl
theorem State.setReg_l (v : Byte) : s.setReg .l v = { s with l := v } := rfl
@[simp] theorem State.setReg_a_a (v : Byte) : (s.setReg .a v).a = v := rfl
@[simp] theorem State.setReg_a_b (v : Byte) : (s.setReg .a v).b = s.b := rfl
@[simp] theorem State.setReg_a_c (v : Byte) : (s.setReg .a v).c = s.c := rfl
@[simp] theorem State.setReg_a_d (v : Byte) : (s.setReg .a v).d = s.d := rfl
@[simp] theorem State.setReg_a_e (v : Byte) : (s.setReg .a v).e = s.e := rfl
@[simp] theorem State.setReg_a_h (v : Byte) : (s.setReg .a v).h = s.h := rfl
@[simp] theorem State.setReg_a_l (v : Byte) : (s.setReg .a v).l = s.l := rfl
@[simp] theorem State.setReg_b_a (v : Byte) : (s.setReg .b v).a = s.a := rfl
@[simp] theorem State.setReg_b_b (v : Byte) : (s.setReg .b v).b = v := rfl
@[simp] theorem State.setReg_b_c (v : Byte) : (s.setReg .b v).c = s.c := rfl
@[simp] theorem State.setReg_b_d (v : Byte) : (s.setReg .b v).d = s.d := rfl
@[simp] theorem State.setReg_b_e (v : Byte) : (s.setReg .b v).e = s.e := rfl
@[simp] theorem State.setReg_b_h (v : Byte) : (s.setReg .b v).h = s.h := rfl
@[simp] theorem State.setReg_b_l (v : Byte) : (s.setReg .b v).l = s.l := rfl
@[simp] theorem State.setReg_c_a (v : Byte) : (s.setReg .c v).a = s.a := rfl
@[simp] theorem State.setReg_c_b (v : Byte) : (s.setReg .c v).b = s.b := rfl
@[simp] theorem State.setReg_c_c (v : Byte) : (s.setReg .c v).c = v := rfl
@[simp] theorem State.setReg_c_d (v : Byte) : (s.setReg .c v).d = s.d := rfl
@[simp] theorem State.setReg_c_e (v : Byte) : (s.setReg .c v).e = s.e := rfl
@[simp] theorem State.setReg_c_h (v : Byte) : (s.setReg .c v).h = s.h := rfl
@[simp] theorem State.setReg_c_l (v : Byte) : (s.setReg .c v).l = s.l := rfl
@[simp] theorem State.setReg_d_a (v : Byte) : (s.setReg .d v).a = s.a := rfl
@[simp] theorem State.setReg_d_b (v : Byte) : (s.setReg .d v).b = s.b := rfl
@[simp] theorem State.setReg_d_c (v : Byte) : (s.setReg .d v).c = s.c := rfl
@[simp] theorem State.setReg_d_d (v : Byte) : (s.setReg .d v).d = v := rfl
@[simp] theorem State.setReg_d_e (v : Byte) : (s.setReg .d v).e = s.e := rfl
@[simp] theorem State.setReg_d_h (v : Byte) : (s.setReg .d v).h = s.h := rfl
@[simp] theorem State.setReg_d_l (v : Byte) : (s.setReg .d v).l = s.l := rfl
@[simp] theorem State.setReg_e_a (v : Byte) : (s.setReg .e v).a = s.a := rfl
@[simp] theorem State.setReg_e_b (v : Byte) : (s.setReg .e v).b = s.b := rfl
@[simp] theorem State.setReg_e_c (v : Byte) : (s.setReg .e v).c = s.c := rfl
@[simp] theorem State.setReg_e_d (v : Byte) : (s.setReg .e v).d = s.d := rfl
@[simp] theorem State.setReg_e_e (v : Byte) : (s.setReg .e v).e = v := rfl
@[simp] theorem State.setReg_e_h (v : Byte) : (s.setReg .e v).h = s.h := rfl
@[simp] theorem State.setReg_e_l (v : Byte) : (s.setReg .e v).l = s.l := rfl
@[simp] theorem State.setReg_h_a (v : Byte) : (s.setReg .h v).a = s.a := rfl
@[simp] theorem State.setReg_h_b (v : Byte) : (s.setReg .h v).b = s.b := rfl
@[simp] theorem State.setReg_h_c (v : Byte) : (s.setReg .h v).c = s.c := rfl
@[simp] theorem State.setReg_h_d (v : Byte) : (s.setReg .h v).d = s.d := rfl
@[simp] theorem State.setReg_h_e (v : Byte) : (s.setReg .h v).e = s.e := rfl
@[simp] theorem State.setReg_h_h (v : Byte) : (s.setReg .h v).h = v := rfl
@[simp] theorem State.setReg_h_l (v : Byte) : (s.setReg .h v).l = s.l := rfl
@[simp] theorem State.setReg_l_a (v : Byte) : (s.setReg .l v).a = s.a := rfl
@[simp] theorem State.setReg_l_b (v : Byte) : (s.setReg .l v).b = s.b := rfl
@[simp] theorem State.setReg_l_c (v : Byte) : (s.setReg .l v).c = s.c := rfl
@[simp] theorem State.setReg_l_d (v : Byte) : (s.setReg .l v).d = s.d := rfl
@[simp] theorem State.setReg_l_e (v : Byte) : (s.setReg .l v).e = s.e := rfl
@[simp] theorem State.setReg_l_h (v : Byte) : (s.setReg .l v).h = s.h := rfl
@[simp] theorem State.setReg_l_l (v : Byte) : (s.setReg .l v).l = v := rfl

/-! ### Pairs -/

@[simp] theorem State.setPair_flagZ (p : Pair) (v : Word) : (s.setPair p v).flagZ = s.flagZ := by cases p <;> rfl
@[simp] theorem State.setPair_flagN (p : Pair) (v : Word) : (s.setPair p v).flagN = s.flagN := by cases p <;> rfl
@[simp] theorem State.setPair_flagH (p : Pair) (v : Word) : (s.setPair p v).flagH = s.flagH := by cases p <;> rfl
@[simp] theorem State.setPair_flagC (p : Pair) (v : Word) : (s.setPair p v).flagC = s.flagC := by cases p <;> rfl
@[simp] theorem State.setPair_pc (p : Pair) (v : Word) : (s.setPair p v).pc = s.pc := by cases p <;> rfl
@[simp] theorem State.setPair_ime (p : Pair) (v : Word) : (s.setPair p v).ime = s.ime := by cases p <;> rfl
@[simp] theorem State.setPair_imeNext (p : Pair) (v : Word) : (s.setPair p v).imeNext = s.imeNext := by cases p <;> rfl
@[simp] theorem State.setPair_cycles (p : Pair) (v : Word) : (s.setPair p v).cycles = s.cycles := by cases p <;> rfl
@[simp] theorem State.setPair_mem (p : Pair) (v : Word) : (s.setPair p v).mem = s.mem := by cases p <;> rfl
@[simp] theorem State.setPair_ie (p : Pair) (v : Word) : (s.setPair p v).ie = s.ie := by cases p <;> rfl
@[simp] theorem State.setPair_run (p : Pair) (v : Word) : (s.setPair p v).run = s.run := by cases p <;> rfl
@[simp] theorem State.setPair_cfg (p : Pair) (v : Word) : (s.setPair p v).cfg = s.cfg := by cases p <;> rfl
@[simp] theorem State.setStackPair_sp (p : StackPair) (v : Word) : (s.setStackPair p v).sp = s.sp := by cases p <;> rfl
@[simp] theorem State.setStackPair_pc (p : StackPair) (v : Word) : (s.setStackPair p v).pc = s.pc := by cases p <;> rfl
@[simp] theorem State.setStackPair_ime (p : StackPair) (v : Word) : (s.setStackPair p v).ime = s.ime := by cases p <;> rfl
@[simp] theorem State.setStackPair_imeNext (p : StackPair) (v : Word) : (s.setStackPair p v).imeNext = s.imeNext := by cases p <;> rfl
@[simp] theorem State.setStackPair_cycles (p : StackPair) (v : Word) : (s.setStackPair p v).cycles = s.cycles := by cases p <;> rfl
@[simp] theorem State.setStackPair_mem (p : StackPair) (v : Word) : (s.setStackPair p v).mem = s.mem := by cases p <;> rfl
@[simp] theorem State.setStackPair_ie (p : StackPair) (v : Word) : (s.setStackPair p v).ie = s.ie := by cases p <;> rfl
@[simp] theorem State.setStackPair_run (p : StackPair) (v : Word) : (s.setStackPair p v).run = s.run := by cases p <;> rfl
@[simp] theorem State.setStackPair_cfg (p : StackPair) (v : Word) : (s.setStackPair p v).cfg = s.cfg := by cases p <;> rfl

/-! ### `State.raise` -/

@[simp] theorem State.raise_a (x : Fault) : (s.raise x).a = s.a := by unfold State.raise; split <;> rfl
@[simp] theorem State.raise_b (x : Fault) : (s.raise x).b = s.b := by unfold State.raise; split <;> rfl
@[simp] theorem State.raise_c (x : Fault) : (s.raise x).c = s.c := by unfold State.raise; split <;> rfl
@[simp] theorem State.raise_d (x : Fault) : (s.raise x).d = s.d := by unfold State.raise; split <;> rfl
@[simp] theorem State.raise_e (x : Fault) : (s.raise x).e = s.e := by unfold State.raise; split <;> rfl
@[simp] theorem State.raise_h (x : Fault) : (s.raise x).h = s.h := by unfold State.raise; split <;> rfl
@[simp] theorem State.raise_l (x : Fault) : (s.raise x).l = s.l := by unfold State.raise; split <;> rfl
@[simp] theorem State.raise_flagZ (x : Fault) : (s.raise x).flagZ = s.flagZ := by unfold State.raise; split <;> rfl
@[simp] theorem State.raise_flagN (x : Fault) : (s.raise x).flagN = s.flagN := by unfold State.raise; split <;> rfl
@[simp] theorem State.raise_flagH (x : Fault) : (s.raise x).flagH = s.flagH := by unfold State.raise; split <;> rfl
@[simp] theorem State.raise_flagC (x : Fault) : (s.raise x).flagC = s.flagC := by unfold State.raise; split <;> rfl
@[simp] theorem State.raise_sp (x : Fault) : (s.raise x).sp = s.sp := by unfold State.raise; split <;> rfl
@[simp] theorem State.raise_pc (x : Fault) : (s.raise x).pc = s.pc := by unfold State.raise; split <;> rfl
@[simp] theorem State.raise_ime (x : Fault) : (s.raise x).ime = s.ime := by unfold State.raise; split <;> rfl
@[simp] theorem State.raise_imeNext (x : Fault) : (s.raise x).imeNext = s.imeNext := by unfold State.raise; split <;> rfl
@[simp] theorem State.raise_cycles (x : Fault) : (s.raise x).cycles = s.cycles := by unfold State.raise; split <;> rfl
@[simp] theorem State.raise_mem (x : Fault) : (s.raise x).mem = s.mem := by unfold State.raise; split <;> rfl
@[simp] theorem State.raise_ie (x : Fault) : (s.raise x).ie = s.ie := by unfold State.raise; split <;> rfl
@[simp] theorem State.raise_cfg (x : Fault) : (s.raise x).cfg = s.cfg := by unfold State.raise; split <;> rfl

/-- On a running state `raise` writes RUN and nothing else (R420). -/
theorem State.raise_of_running {s : State} (h : s.run = .running) (x : Fault) : s.raise x = { s with run := .faulted x } := by
  simp [State.raise, h]

/-- A Faulted state keeps its fault (R434). -/
theorem State.raise_of_faulted {s : State} {g : Fault} (h : s.run = .faulted g) (x : Fault) : s.raise x = s := by
  simp [State.raise, h]

/-- After `raise` RUN is never `Running`. -/
theorem State.raise_run_ne (x : Fault) : (s.raise x).run ≠ .running := by
  unfold State.raise
  split
  · simp
  · rename_i h
    simp [h]

/-! ### CHARGE -/

/-- One tick in closed form (R44). -/
theorem State.tick_eq : s.tick = { s with cycles := s.cycles + 1, ime := s.ime || s.imeNext, imeNext := false } := by
  unfold State.tick
  split
  · rename_i h
    simp [h]
  · rename_i h
    have h' : s.imeNext = false := by simpa using h
    cases s
    simp_all

@[simp] theorem State.tick_a : s.tick.a = s.a := by unfold State.tick; split <;> rfl
@[simp] theorem State.tick_b : s.tick.b = s.b := by unfold State.tick; split <;> rfl
@[simp] theorem State.tick_c : s.tick.c = s.c := by unfold State.tick; split <;> rfl
@[simp] theorem State.tick_d : s.tick.d = s.d := by unfold State.tick; split <;> rfl
@[simp] theorem State.tick_e : s.tick.e = s.e := by unfold State.tick; split <;> rfl
@[simp] theorem State.tick_h : s.tick.h = s.h := by unfold State.tick; split <;> rfl
@[simp] theorem State.tick_l : s.tick.l = s.l := by unfold State.tick; split <;> rfl
@[simp] theorem State.tick_flagZ : s.tick.flagZ = s.flagZ := by unfold State.tick; split <;> rfl
@[simp] theorem State.tick_flagN : s.tick.flagN = s.flagN := by unfold State.tick; split <;> rfl
@[simp] theorem State.tick_flagH : s.tick.flagH = s.flagH := by unfold State.tick; split <;> rfl
@[simp] theorem State.tick_flagC : s.tick.flagC = s.flagC := by unfold State.tick; split <;> rfl
@[simp] theorem State.tick_sp : s.tick.sp = s.sp := by unfold State.tick; split <;> rfl
@[simp] theorem State.tick_pc : s.tick.pc = s.pc := by unfold State.tick; split <;> rfl
@[simp] theorem State.tick_mem : s.tick.mem = s.mem := by unfold State.tick; split <;> rfl
@[simp] theorem State.tick_ie : s.tick.ie = s.ie := by unfold State.tick; split <;> rfl
@[simp] theorem State.tick_run : s.tick.run = s.run := by unfold State.tick; split <;> rfl
@[simp] theorem State.tick_cfg : s.tick.cfg = s.cfg := by unfold State.tick; split <;> rfl
@[simp] theorem State.charge_a (n : Nat) : (s.charge n).a = s.a := by
  induction n generalizing s with
  | zero => rfl
  | succ n ih => simp [State.charge, ih]
@[simp] theorem State.charge_b (n : Nat) : (s.charge n).b = s.b := by
  induction n generalizing s with
  | zero => rfl
  | succ n ih => simp [State.charge, ih]
@[simp] theorem State.charge_c (n : Nat) : (s.charge n).c = s.c := by
  induction n generalizing s with
  | zero => rfl
  | succ n ih => simp [State.charge, ih]
@[simp] theorem State.charge_d (n : Nat) : (s.charge n).d = s.d := by
  induction n generalizing s with
  | zero => rfl
  | succ n ih => simp [State.charge, ih]
@[simp] theorem State.charge_e (n : Nat) : (s.charge n).e = s.e := by
  induction n generalizing s with
  | zero => rfl
  | succ n ih => simp [State.charge, ih]
@[simp] theorem State.charge_h (n : Nat) : (s.charge n).h = s.h := by
  induction n generalizing s with
  | zero => rfl
  | succ n ih => simp [State.charge, ih]
@[simp] theorem State.charge_l (n : Nat) : (s.charge n).l = s.l := by
  induction n generalizing s with
  | zero => rfl
  | succ n ih => simp [State.charge, ih]
@[simp] theorem State.charge_flagZ (n : Nat) : (s.charge n).flagZ = s.flagZ := by
  induction n generalizing s with
  | zero => rfl
  | succ n ih => simp [State.charge, ih]
@[simp] theorem State.charge_flagN (n : Nat) : (s.charge n).flagN = s.flagN := by
  induction n generalizing s with
  | zero => rfl
  | succ n ih => simp [State.charge, ih]
@[simp] theorem State.charge_flagH (n : Nat) : (s.charge n).flagH = s.flagH := by
  induction n generalizing s with
  | zero => rfl
  | succ n ih => simp [State.charge, ih]
@[simp] theorem State.charge_flagC (n : Nat) : (s.charge n).flagC = s.flagC := by
  induction n generalizing s with
  | zero => rfl
  | succ n ih => simp [State.charge, ih]
@[simp] theorem State.charge_sp (n : Nat) : (s.charge n).sp = s.sp := by
  induction n generalizing s with
  | zero => rfl
  | succ n ih => simp [State.charge, ih]
@[simp] theorem State.charge_pc (n : Nat) : (s.charge n).pc = s.pc := by
  induction n generalizing s with
  | zero => rfl
  | succ n ih => simp [State.charge, ih]
@[simp] theorem State.charge_mem (n : Nat) : (s.charge n).mem = s.mem := by
  induction n generalizing s with
  | zero => rfl
  | succ n ih => simp [State.charge, ih]
@[simp] theorem State.charge_ie (n : Nat) : (s.charge n).ie = s.ie := by
  induction n generalizing s with
  | zero => rfl
  | succ n ih => simp [State.charge, ih]
@[simp] theorem State.charge_run (n : Nat) : (s.charge n).run = s.run := by
  induction n generalizing s with
  | zero => rfl
  | succ n ih => simp [State.charge, ih]
@[simp] theorem State.charge_cfg (n : Nat) : (s.charge n).cfg = s.cfg := by
  induction n generalizing s with
  | zero => rfl
  | succ n ih => simp [State.charge, ih]

@[simp] theorem State.charge_cycles (n : Nat) : (s.charge n).cycles = s.cycles + n := by
  induction n generalizing s with
  | zero => rfl
  | succ n ih => simp [State.charge, ih, State.tick_eq]; omega

/-- Further ticks find the latch clear. -/
theorem State.charge_of_imeNext_false (n : Nat) {s : State} (h : s.imeNext = false) :
    s.charge n = { s with cycles := s.cycles + n } := by
  induction n generalizing s with
  | zero => rfl
  | succ n ih =>
    have ht : s.tick = { s with cycles := s.cycles + 1 } := by simp [State.tick, h]
    rw [State.charge, ht, ih (s := { s with cycles := s.cycles + 1 }) h]
    simp [Nat.add_assoc, Nat.add_comm 1]

/-- `Charge(n)` of at least one tick in closed form (R44): the count, and the promotion of IME_NEXT on the first tick. -/
theorem State.charge_succ (n : Nat) :
    s.charge (n + 1) = { s with cycles := s.cycles + (n + 1), ime := s.ime || s.imeNext, imeNext := false } := by
  rw [State.charge, State.charge_of_imeNext_false n (by simp [State.tick_eq]), State.tick_eq]
  simp [Nat.add_assoc, Nat.add_comm 1]

/-! ### Pair views -/

theorem State.getPair_charge (n : Nat) (p : Pair) : (s.charge n).getPair p = s.getPair p := by
  cases p <;> simp [State.getPair, State.bc, State.de, State.hl]

theorem State.getStackPair_charge (n : Nat) (p : StackPair) : (s.charge n).getStackPair p = s.getStackPair p := by
  cases p <;> simp [State.getStackPair, State.bc, State.de, State.hl, State.af, State.fByte]

@[simp] theorem State.hl_charge (n : Nat) : (s.charge n).hl = s.hl := by simp [State.hl]

@[simp] theorem State.bc_charge (n : Nat) : (s.charge n).bc = s.bc := by simp [State.bc]

@[simp] theorem State.de_charge (n : Nat) : (s.charge n).de = s.de := by simp [State.de]

@[simp] theorem State.getReg_charge (n : Nat) (r : Reg8) : (s.charge n).getReg r = s.getReg r := by
  cases r <;> simp

@[simp] theorem State.cond_charge (n : Nat) (cc : Cond) : (s.charge n).cond cc = s.cond cc := by
  cases cc <;> simp [State.cond]

/-- The number a joined word holds (R9). -/
theorem join_toNat (h l : Byte) : (join h l).toNat = h.toNat * 256 + l.toNat := by
  show (h ++ l).toNat = _
  rw [BitVec.toNat_append, ← Nat.shiftLeft_add_eq_or_of_lt l.isLt, Nat.shiftLeft_eq]

theorem hi8_toNat (v : Word) : (hi8 v).toNat = v.toNat / 256 := by
  have := v.isLt
  simp only [hi8, BitVec.extractLsb'_toNat, Nat.shiftRight_eq_div_pow]
  omega

theorem lo8_toNat (v : Word) : (lo8 v).toNat = v.toNat % 256 := by
  simp [lo8, BitVec.extractLsb'_toNat]

/-- The halves of a joined word. -/
@[simp] theorem hi8_join (h l : Byte) : hi8 (join h l) = h := by
  apply BitVec.eq_of_toNat_eq
  have := l.isLt
  rw [hi8_toNat, join_toNat]
  omega

@[simp] theorem lo8_join (h l : Byte) : lo8 (join h l) = l := by
  apply BitVec.eq_of_toNat_eq
  have := l.isLt
  rw [lo8_toNat, join_toNat]
  omega

/-- A word is its two halves (R37, R38). -/
@[simp] theorem join_hi8_lo8 (v : Word) : join (hi8 v) (lo8 v) = v := by
  apply BitVec.eq_of_toNat_eq
  rw [join_toNat, hi8_toNat, lo8_toNat]
  omega

/-- The pair round trip (R38): BC, DE, HL and SP read back what was written. -/
@[simp] theorem State.getPair_setPair (p : Pair) (v : Word) : (s.setPair p v).getPair p = v := by
  cases p <;> simp [State.setPair, State.getPair, State.bc, State.de, State.hl]

end Sys2Proof.Machine
end

