-- ==== Sys2Proof/Laws/Memory.lean ====
section
/-! SUPPORT. The laws of the memory bus: the canonical form is kept by every write, a byte reads back what was stored, a store
leaves every other slot alone, and what each bus primitive can answer. -/

namespace Sys2Proof.Machine

/-! ### Storage -/

/-- A canonical memory from a higher bound is one from any lower bound. -/
theorem Memory.sortedFrom_mono {m : Memory} {lo hi : Nat} (h : lo ≤ hi) (hm : Memory.sortedFrom hi m = true) :
    Memory.sortedFrom lo m = true := by
  cases m with
  | nil => rfl
  | cons c m =>
    simp only [Memory.sortedFrom, Bool.and_eq_true, decide_eq_true_eq] at hm ⊢
    exact ⟨⟨by omega, hm.1.2⟩, hm.2⟩

/-- Below its first address a canonical memory lists nothing. -/
theorem Memory.read_of_lt {m : Memory} {lo a : Nat} (hm : Memory.sortedFrom lo m = true) (h : a < lo) :
    Memory.read m a = 0#8 := by
  induction m generalizing lo with
  | nil => rfl
  | cons c m ih =>
    simp only [Memory.sortedFrom, Bool.and_eq_true, decide_eq_true_eq] at hm
    have hne : c.1 ≠ a := by omega
    simp only [Memory.read, hne, if_false]
    exact ih hm.2 (by omega)

/-- A write keeps the canonical form. -/
theorem Memory.sortedFrom_write {m : Memory} {lo a : Nat} (v : Byte) (hm : Memory.sortedFrom lo m = true) (h : lo ≤ a) :
    Memory.sortedFrom lo (Memory.write m a v) = true := by
  induction m generalizing lo with
  | nil =>
    unfold Memory.write
    split
    · rfl
    · rename_i hv
      simp [Memory.sortedFrom, h, hv]
  | cons c m ih =>
    simp only [Memory.sortedFrom, Bool.and_eq_true, decide_eq_true_eq] at hm
    unfold Memory.write
    split
    · split
      · simpa [Memory.sortedFrom] using hm
      · rename_i hlt hv
        simp [Memory.sortedFrom, h, hv, hm.2, Nat.succ_le_of_lt hlt]
        simpa using hm.1.2
    · split
      · rename_i heq
        split
        · exact Memory.sortedFrom_mono (by omega) hm.2
        · rename_i hv
          subst heq
          simp [Memory.sortedFrom, h, hv, hm.2]
      · simp only [Memory.sortedFrom, Bool.and_eq_true, decide_eq_true_eq]
        exact ⟨hm.1, ih hm.2 (by omega)⟩

theorem Memory.wf_write {m : Memory} (a : Nat) (v : Byte) (hm : Memory.wf m = true) : Memory.wf (Memory.write m a v) = true :=
  Memory.sortedFrom_write v hm (Nat.zero_le a)

/-- A byte reads back what was stored. -/
theorem Memory.read_write_same {m : Memory} {lo : Nat} (a : Nat) (v : Byte) (hm : Memory.sortedFrom lo m = true) :
    Memory.read (Memory.write m a v) a = v := by
  induction m generalizing lo with
  | nil =>
    unfold Memory.write
    split
    · rename_i hv
      simp [Memory.read, hv]
    · simp [Memory.read]
  | cons c m ih =>
    simp only [Memory.sortedFrom, Bool.and_eq_true, decide_eq_true_eq] at hm
    unfold Memory.write
    split
    · rename_i hlt
      split
      · rename_i hv
        have hne : c.1 ≠ a := by omega
        simp only [Memory.read, hne, if_false, hv]
        exact Memory.read_of_lt hm.2 (by omega)
      · simp [Memory.read]
    · split
      · rename_i heq
        split
        · rename_i hv
          rw [hv]
          exact Memory.read_of_lt hm.2 (by omega)
        · simp [Memory.read]
      · rename_i hne
        have hne' : c.1 ≠ a := fun h => hne h.symm
        simp only [Memory.read, hne', if_false]
        exact ih hm.2

/-- A store leaves every other byte alone. -/
theorem Memory.read_write_other (m : Memory) {a b : Nat} (v : Byte) (h : b ≠ a) :
    Memory.read (Memory.write m a v) b = Memory.read m b := by
  induction m with
  | nil =>
    unfold Memory.write
    split
    · rfl
    · simp [Memory.read, h.symm]
  | cons c m ih =>
    unfold Memory.write
    split
    · split
      · rfl
      · simp [Memory.read, h.symm]
    · split
      · rename_i heq
        subst heq
        split
        · simp [Memory.read, h.symm]
        · simp [Memory.read, h.symm]
      · simp only [Memory.read, ih]

/-- What a write lists: the entries it had, or the new one. -/
theorem Memory.mem_write {m : Memory} {a : Nat} {v : Byte} {c : Host.Cell} (h : c ∈ Memory.write m a v) :
    c ∈ m ∨ c.1 = a := by
  induction m with
  | nil =>
    unfold Memory.write at h
    split at h
    · simp at h
    · simp at h
      simp [h]
  | cons d m ih =>
    unfold Memory.write at h
    split at h
    · split at h
      · exact .inl h
      · rcases List.mem_cons.1 h with rfl | h
        · exact .inr rfl
        · exact .inl h
    · split at h
      · split at h
        · exact .inl (List.mem_cons_of_mem _ h)
        · rcases List.mem_cons.1 h with rfl | h
          · exact .inr rfl
          · exact .inl (List.mem_cons_of_mem _ h)
      · rcases List.mem_cons.1 h with rfl | h
        · exact .inl List.mem_cons_self
        · exact (ih h).imp_left (List.mem_cons_of_mem _)

/-! ### The translator -/

/-- Every address lies within its region (R71, R72). -/
theorem regionOf_range (a : Word) :
    (regionOf a).base ≤ a.toNat ∧ a.toNat < (regionOf a).base + (regionOf a).size := by
  have hlt := a.isLt
  let P : Region → Prop := fun r => r.base ≤ a.toNat ∧ a.toNat < r.base + r.size
  show P (regionOf a)
  unfold regionOf
  refine iteInduction (motive := P) (fun _ => ?_) fun _ => ?_
  · exact ⟨Nat.zero_le _, show a.toNat < 0 + 0x4000 by omega⟩
  iterate 10
    refine iteInduction (motive := P) (fun _ => ?_) fun _ => ?_
    · constructor <;> simp only [Region.base, Region.size] <;> omega
  constructor <;> simp only [Region.base, Region.size] <;> omega

/-- Below 0xE000 an address is its own storage (R73, R74). -/
theorem slotOf_low (cfg : Config) {a : Word} (h : a.toNat ≤ 0xDFFF) : slotOf cfg a = .plain a.toNat := by
  have hr := regionOf_range a
  unfold slotOf translate
  generalize a.toNat = n at *
  generalize regionOf a = q at *
  cases q <;> dsimp only [Region.base, Region.size] at hr ⊢ <;>
    first | (exact congrArg _ (by omega)) | (exfalso; omega)

/-- Echo RAM (R75). -/
theorem slotOf_echo (cfg : Config) {a : Word} (h : 0xE000 ≤ a.toNat) (h' : a.toNat ≤ 0xFDFF) :
    slotOf cfg a = .plain (if cfg.echoMirror then a.toNat - 0x2000 else a.toNat) := by
  have hr := regionOf_range a
  unfold slotOf translate
  generalize a.toNat = n at *
  generalize regionOf a = q at *
  cases q <;> dsimp only [Region.base, Region.size] at hr ⊢ <;>
    first | (split <;> exact congrArg _ (by omega)) | (exfalso; omega)

/-- OAM, IO and HRAM (R74). -/
theorem slotOf_high (cfg : Config) {a : Word}
    (h : (0xFE00 ≤ a.toNat ∧ a.toNat ≤ 0xFE9F) ∨ (0xFF00 ≤ a.toNat ∧ a.toNat ≤ 0xFFFE)) :
    slotOf cfg a = .plain a.toNat := by
  have hr := regionOf_range a
  unfold slotOf translate
  generalize a.toNat = n at *
  generalize regionOf a = q at *
  cases q <;> dsimp only [Region.base, Region.size] at hr ⊢ <;>
    first | (exact congrArg _ (by omega)) | (exfalso; omega)

/-- The gap (R76). -/
theorem slotOf_gap (cfg : Config) {a : Word} (h : 0xFEA0 ≤ a.toNat) (h' : a.toNat ≤ 0xFEFF) :
    slotOf cfg a = match cfg.unmappedPolicy with | .fault => .unmapped | .storage => .plain a.toNat := by
  have hr := regionOf_range a
  unfold slotOf translate
  generalize a.toNat = n at *
  generalize regionOf a = q at *
  generalize cfg.unmappedPolicy = p
  cases q <;> dsimp only [Region.base, Region.size] at hr ⊢ <;>
    first
      | (exfalso; omega)
      | (cases p <;> first | exact congrArg Slot.plain (by omega) | rfl)

/-- The IE cell (R77). -/
theorem slotOf_ie (cfg : Config) {a : Word} (h : 0xFFFF ≤ a.toNat) : slotOf cfg a = .ie := by
  have hr := regionOf_range a
  unfold slotOf translate
  generalize a.toNat = n at *
  generalize regionOf a = q at *
  cases q <;> dsimp only [Region.base, Region.size] at hr ⊢ <;>
    first | rfl | (exfalso; omega)

/-- The five kinds of address those laws tell apart. -/
theorem address_cases (a : Word) : a.toNat ≤ 0xDFFF ∨ (0xE000 ≤ a.toNat ∧ a.toNat ≤ 0xFDFF) ∨
    ((0xFE00 ≤ a.toNat ∧ a.toNat ≤ 0xFE9F) ∨ (0xFF00 ≤ a.toNat ∧ a.toNat ≤ 0xFFFE)) ∨
    (0xFEA0 ≤ a.toNat ∧ a.toNat ≤ 0xFEFF) ∨ 0xFFFF ≤ a.toNat := by omega

/-- A plain slot is its own storage address. -/
theorem isStorage_of_slotOf {cfg : Config} {a : Word} {k : Nat} (h : slotOf cfg a = .plain k) : isStorage cfg k = true := by
  have hlt := a.isLt
  have key : ∀ n, n < 65536 → (BitVec.ofNat 16 n).toNat = n := fun n hn => by
    rw [BitVec.toNat_ofNat]; exact Nat.mod_eq_of_lt hn
  have fin : k < 65536 → slotOf cfg (BitVec.ofNat 16 k) = .plain k → isStorage cfg k = true := fun h1 h2 => by
    rw [isStorage, h2, decide_eq_true h1]
    exact beq_self_eq_true _
  rcases address_cases a with ha | ⟨ha, hb⟩ | ha | ⟨ha, hb⟩ | ha
  · rw [slotOf_low cfg ha] at h
    cases h
    exact fin (by omega) (by rw [slotOf_low cfg] <;> rw [key] <;> omega)
  · rw [slotOf_echo cfg ha hb] at h
    injection h with h
    split at h
    · exact fin (by omega) (by rw [slotOf_low cfg] <;> rw [key] <;> omega)
    · rename_i hm
      subst h
      exact fin (by omega) (by rw [slotOf_echo cfg, if_neg hm] <;> rw [key] <;> omega)
  · rw [slotOf_high cfg ha] at h
    cases h
    exact fin (by omega) (by rw [slotOf_high cfg] <;> rw [key] <;> omega)
  · rw [slotOf_gap cfg ha hb] at h
    split at h
    · cases h
    · rename_i hp
      cases h
      exact fin (by omega) (by rw [slotOf_gap cfg, hp, key] <;> (try rw [key]) <;> omega)
  · rw [slotOf_ie cfg ha] at h
    cases h

/-! ### Bytes on the bus -/

/-- Everything a store can do: it changes the storage or the IE cell, and nothing else. -/
theorem poke8_eq_some {a : Word} {v : Byte} {s t : State} (h : poke8 a v s = some t) :
    (∃ k, slotOf s.cfg a = .plain k ∧ t = { s with mem := Memory.write s.mem k v }) ∨
      (slotOf s.cfg a = .ie ∧ t = { s with ie := v != 0#8 }) := by
  unfold poke8 at h
  split at h
  · rename_i k hk
    exact .inl ⟨k, hk, (Option.some.inj h).symm⟩
  · rename_i hk
    exact .inr ⟨hk, (Option.some.inj h).symm⟩
  · cases h

/-- A store leaves everything but the storage and the IE cell alone. -/
theorem poke8_frame {a : Word} {v : Byte} {s t : State} (h : poke8 a v s = some t) :
    t = { s with mem := t.mem, ie := t.ie } := by
  rcases poke8_eq_some h with ⟨k, -, rfl⟩ | ⟨-, rfl⟩ <;> rfl

/-- A store succeeds where a read does, and fails where a read does (R76). -/
theorem poke8_isSome (a : Word) (v : Byte) (s : State) : (poke8 a v s).isSome = (peek8 a s).isSome := by
  unfold poke8 peek8
  split <;> rfl

/-- A store leaves every byte of another slot alone. -/
theorem peek8_poke8_other {a b : Word} {v : Byte} {s t : State} (h : poke8 a v s = some t)
    (hab : slotOf s.cfg a ≠ slotOf s.cfg b) : peek8 b t = peek8 b s := by
  rcases poke8_eq_some h with ⟨k, hk, rfl⟩ | ⟨hk, rfl⟩
  · unfold peek8
    cases hb : slotOf s.cfg b with
    | plain j =>
      have : j ≠ k := fun e => hab (by rw [hk, hb, e])
      simp [Memory.read_write_other _ _ this]
    | ie => rfl
    | unmapped => rfl
  · unfold peek8
    cases hb : slotOf s.cfg b with
    | plain j => rfl
    | ie => exact absurd (hk.trans hb.symm) hab
    | unmapped => rfl

/-- A store keeps the storage invariant: every memory operation is made of stores. -/
theorem poke8_inv {a : Word} {v : Byte} {s t : State} (h : poke8 a v s = some t) (hi : StorageInv s) : StorageInv t := by
  rcases poke8_eq_some h with ⟨k, hk, rfl⟩ | ⟨-, rfl⟩
  · refine ⟨Memory.wf_write k v hi.1, fun c hc => ?_⟩
    rcases Memory.mem_write hc with hc | hc
    · exact hi.2 c hc
    · rw [hc]
      exact isStorage_of_slotOf hk
  · exact hi

/-- What a byte reads as does not depend on anything but the storage, the IE cell and the parameters. -/
theorem peek8_congr {s t : State} (hm : t.mem = s.mem) (hi : t.ie = s.ie) (hc : t.cfg = s.cfg) (a : Word) :
    peek8 a t = peek8 a s := by
  simp only [peek8, hm, hi, hc]

/-- A store commutes with any change that leaves the storage, the IE cell and the parameters alone. -/
theorem poke8_congr {s t : State} (hm : t.mem = s.mem) (hi : t.ie = s.ie) (hc : t.cfg = s.cfg) (a : Word) (v : Byte) :
    poke8 a v t = (poke8 a v s).map fun u => { t with mem := u.mem, ie := u.ie } := by
  cases s
  cases t
  simp only at hm hi hc
  subst hm hi hc
  simp only [poke8]
  split <;> rfl

/-! ### The bus primitives -/

theorem busRead8_ok {a : Word} {s : State} {v : Byte} : busRead8 a s = .ok v ↔ peek8 a s = some v := by
  unfold busRead8
  split <;> simp_all

theorem busRead8_error {a : Word} {s : State} {f : Fault} :
    busRead8 a s = .error f ↔ peek8 a s = none ∧ f = .unmappedAccess a .read s.pc := by
  unfold busRead8
  split
  · rename_i h
    simp [h]
  · rename_i h
    simp [h, eq_comm]

theorem busWrite8_ok {a : Word} {v : Byte} {s t : State} : busWrite8 a v s = .ok t ↔ poke8 a v s = some t := by
  unfold busWrite8
  split <;> simp_all

theorem busWrite8_error {a : Word} {v : Byte} {s : State} {f : Fault} :
    busWrite8 a v s = .error f ↔ peek8 a s = none ∧ f = .unmappedAccess a .write s.pc := by
  have hs := poke8_isSome a v s
  unfold busWrite8
  split
  · rename_i h
    rw [h] at hs
    constructor
    · intro h'
      cases h'
    · rintro ⟨h', -⟩
      rw [h'] at hs
      cases hs
  · rename_i h
    rw [h] at hs
    have hn : peek8 a s = none := by simpa using hs.symm
    simp [hn, eq_comm]

/-! ### Addresses that share storage -/

/-- Nothing is behind an address exactly where an access to it faults (R76). -/
theorem slotOf_eq_unmapped (cfg : Config) (a : Word) : slotOf cfg a = .unmapped ↔ ¬ Mapped cfg a := by
  rcases address_cases a with ha | ⟨ha, hb⟩ | ha | ⟨ha, hb⟩ | ha
  · rw [slotOf_low cfg ha]; simp [Mapped]; omega
  · rw [slotOf_echo cfg ha hb]; simp [Mapped]; omega
  · rw [slotOf_high cfg ha]; simp [Mapped]; omega
  · rw [slotOf_gap cfg ha hb]
    cases h : cfg.unmappedPolicy <;> simp [Mapped, h]
    omega
  · rw [slotOf_ie cfg ha]; simp [Mapped]; omega

/-- The IE cell is behind exactly one address (R77). -/
theorem slotOf_eq_ie (cfg : Config) (a : Word) : slotOf cfg a = .ie ↔ a = 0xFFFF := by
  have key : a = 0xFFFF ↔ a.toNat = 0xFFFF := BitVec.toNat_eq
  rw [key]
  rcases address_cases a with ha | ⟨ha, hb⟩ | ha | ⟨ha, hb⟩ | ha
  · rw [slotOf_low cfg ha]; simp; omega
  · rw [slotOf_echo cfg ha hb]; simp; omega
  · rw [slotOf_high cfg ha]; simp; omega
  · rw [slotOf_gap cfg ha hb]
    cases cfg.unmappedPolicy <;> simp <;> omega
  · rw [slotOf_ie cfg ha]; simp; omega

/-- The storage address behind a bus address: itself, or 0x2000 below it for an echo alias (R75). -/
theorem slotOf_plain {cfg : Config} {a : Word} {k : Nat} (h : slotOf cfg a = .plain k) :
    if cfg.echoMirror = true ∧ 0xE000 ≤ a.toNat ∧ a.toNat ≤ 0xFDFF then k + 0x2000 = a.toNat else k = a.toNat := by
  rcases address_cases a with ha | ⟨ha, hb⟩ | ha | ⟨ha, hb⟩ | ha
  · rw [slotOf_low cfg ha] at h; cases h; rw [if_neg (by omega)]
  · rw [slotOf_echo cfg ha hb] at h; injection h with h
    cases hE : cfg.echoMirror
    · rw [if_neg (by simp)]; simpa [hE] using h.symm
    · rw [if_pos ⟨rfl, ha, hb⟩]; rw [hE, if_pos rfl] at h; omega
  · rw [slotOf_high cfg ha] at h; cases h; rw [if_neg (by omega)]
  · rw [slotOf_gap cfg ha hb] at h
    cases hp : cfg.unmappedPolicy <;> rw [hp] at h <;> cases h
    rw [if_neg (by omega)]
  · rw [slotOf_ie cfg ha] at h; cases h

/-- Two addresses with one slot behind them share storage. -/
theorem sameStorage_of_slotOf {cfg : Config} {a b : Word} (h : slotOf cfg a = slotOf cfg b) (hm : slotOf cfg a ≠ .unmapped) :
    sameStorage cfg a b := by
  unfold sameStorage
  cases ha : slotOf cfg a with
  | unmapped => exact absurd ha hm
  | ie => left; rw [ha] at h; rw [(slotOf_eq_ie _ _).1 ha, (slotOf_eq_ie _ _).1 h.symm]
  | plain k =>
    rw [ha] at h
    have h1 := slotOf_plain ha
    have h2 := slotOf_plain h.symm
    rw [show (a = b) = (a.toNat = b.toNat) from propext BitVec.toNat_eq]
    split at h1 <;> split at h2 <;> (first | left; omega | right; refine ⟨by tauto, ?_⟩; omega)

/-- Addresses that share storage have one slot behind them. -/
theorem slotOf_of_sameStorage {cfg : Config} {a b : Word} (h : sameStorage cfg a b) : slotOf cfg a = slotOf cfg b := by
  rcases h with rfl | ⟨he, ⟨h1, h2, h3⟩ | ⟨h1, h2, h3⟩⟩
  · rfl
  · rw [slotOf_echo cfg h1 h2, slotOf_low cfg (by omega), he, if_pos rfl]; refine congrArg _ ?_; omega
  · rw [slotOf_echo cfg h1 h2, slotOf_low cfg (by omega), he, if_pos rfl]; refine congrArg _ ?_; omega

/-- A read faults exactly where nothing is behind the address. -/
theorem peek8_eq_none (a : Word) (s : State) : peek8 a s = none ↔ slotOf s.cfg a = .unmapped := by
  unfold peek8; split <;> simp_all

/-- A store leaves every address that shares no storage with its own as it was. -/
theorem poke8_other {a b : Word} {v : Byte} {s t : State} (h : poke8 a v s = some t) (hn : ¬ sameStorage s.cfg b a) :
    peek8 b t = peek8 b s := by
  by_cases hu : slotOf s.cfg b = .unmapped
  · have := (peek8_eq_none b s).2 hu
    rw [this, peek8_eq_none, poke8_frame h]; exact hu
  · exact peek8_poke8_other h fun e => hn (sameStorage_of_slotOf e.symm hu)

end Sys2Proof.Machine
end

