-- ==== Sys2Proof/Laws/Ops.lean ====
section
/-! SUPPORT. One lemma per shared operation and per shared body: everything it can answer. Proofs cite these and do not unfold
the operation. -/

namespace Sys2Proof.Machine

open Host

/-! ### Sequencing -/

@[simp] theorem ok_bind {α β : Type} (a : α) (f : α → Except Fault β) : (Except.ok a >>= f) = f a := rfl

@[simp] theorem error_bind {α β : Type} (x : Fault) (f : α → Except Fault β) :
    ((Except.error x : Except Fault α) >>= f) = .error x := rfl

/-- A sequence that answers: its first part answers, and the rest from there. -/
theorem bind_ok {α β : Type} {x : Except Fault α} {f : α → Except Fault β} {b : β} :
    (x >>= f) = .ok b ↔ ∃ a, x = .ok a ∧ f a = .ok b := by
  cases x <;> simp

/-- A sequence that faults: its first part does, or the rest from its answer. -/
theorem bind_error {α β : Type} {x : Except Fault α} {f : α → Except Fault β} {e : Fault} :
    (x >>= f) = .error e ↔ x = .error e ∨ ∃ a, x = .ok a ∧ f a = .error e := by
  cases x <;> simp

theorem pure_eq_ok {α : Type} (a : α) : (pure a : Except Fault α) = .ok a := rfl

/-! ### The shape of an instruction -/

@[simp] theorem settle_ok (s t : State) : settle s (.ok t) = .next t := rfl

@[simp] theorem settle_error (s : State) (f : Fault) : settle s (.error f) = .next (s.raise f) := rfl

/-- A step settles in a next state: the one its stages made, or the first one with the fault raised. -/
theorem settle_next {s t : State} {r : Except Fault State} :
    settle s r = .next t ↔ r = .ok t ∨ ∃ f, r = .error f ∧ t = s.raise f := by
  cases r <;> simp [eq_comm]

/-- An instruction answers what its body makes of the charged state. -/
theorem instr_next {n : Nat} {body : State → Except Fault State} {s t : State} :
    instr n body s = .next t ↔
      body (s.charge n) = .ok t ∨ ∃ f, body (s.charge n) = .error f ∧ t = s.raise f := settle_next

theorem instr_of_ok {n : Nat} {body : State → Except Fault State} {s t : State} (h : body (s.charge n) = .ok t) :
    instr n body s = .next t := by simp [instr, h]

theorem instr_of_error {n : Nat} {body : State → Except Fault State} {s : State} {f : Fault}
    (h : body (s.charge n) = .error f) : instr n body s = .next (s.raise f) := by simp [instr, h]

@[simp] theorem instrIf_true {m n : Nat} {x y : State → Except Fault State} {s : State} :
    instrIf true m n x y s = instr m x s := rfl

@[simp] theorem instrIf_false {m n : Nat} {x y : State → Except Fault State} {s : State} :
    instrIf false m n x y s = instr n y s := rfl

/-! ### Operands and the stack -/

@[simp] theorem getR8_reg (r : Reg8) (s : State) : getR8 (.reg r) s = .ok (s.getReg r) := rfl

@[simp] theorem setR8_reg (r : Reg8) (v : Byte) (s : State) : setR8 (.reg r) v s = .ok (s.setReg r v) := rfl

theorem getR8_mem_ok {a : Word} {s : State} {v : Byte} : getR8 (.mem a) s = .ok v ↔ peek8 a s = some v := busRead8_ok

theorem setR8_mem_ok {a : Word} {s t : State} {v : Byte} : setR8 (.mem a) v s = .ok t ↔ poke8 a v s = some t := busWrite8_ok

/-- A 16-bit read answers both bytes, the low one from the address. -/
theorem memRead16_ok {a : Word} {s : State} {v : Word} :
    memRead16 a s = .ok v ↔ ∃ lo hi, peek8 a s = some lo ∧ peek8 (a + 1) s = some hi ∧ v = join hi lo := by
  unfold memRead16
  cases hl : busRead8 a s with
  | error x =>
    constructor
    · intro h; cases h
    · rintro ⟨lo, hi, h, -⟩; rw [← busRead8_ok, hl] at h; cases h
  | ok lo =>
    rw [busRead8_ok] at hl
    cases hh : busRead8 (a + 1) s with
    | error x =>
      constructor
      · intro h; cases h
      · rintro ⟨_, _, -, h, -⟩; rw [← busRead8_ok, hh] at h; cases h
    | ok hi =>
      rw [busRead8_ok] at hh
      constructor
      · intro h
        exact ⟨lo, hi, hl, hh, (Except.ok.inj h).symm⟩
      · rintro ⟨lo', hi', h1, h2, rfl⟩
        rw [hl] at h1
        rw [hh] at h2
        cases h1
        cases h2
        rfl

/-- A 16-bit write stores the low byte at the address and then the high byte at the next. -/
theorem memWrite16_ok {a v : Word} {s u : State} :
    memWrite16 a v s = .ok u ↔ ∃ t, poke8 a (lo8 v) s = some t ∧ poke8 (a + 1) (hi8 v) t = some u := by
  unfold memWrite16
  cases h : busWrite8 a (lo8 v) s with
  | error x =>
    constructor
    · intro h'; cases h'
    · rintro ⟨t, ht, -⟩; rw [← busWrite8_ok, h] at ht; cases ht
  | ok t =>
    rw [busWrite8_ok] at h
    constructor
    · intro h'
      exact ⟨t, h, busWrite8_ok.1 h'⟩
    · rintro ⟨t', h1, h2⟩
      rw [h] at h1
      cases h1
      exact busWrite8_ok.2 h2

/-- A push stores the high byte below SP and the low byte below that, and leaves SP there. -/
theorem push16_ok {v : Word} {s u : State} :
    push16 v s = .ok u ↔ ∃ t, poke8 (s.sp - 1) (hi8 v) (s.setSP (s.sp - 1)) = some t ∧
      poke8 (s.sp - 1 - 1) (lo8 v) (t.setSP (s.sp - 1 - 1)) = some u := by
  unfold push16
  cases h : busWrite8 (s.sp - 1) (hi8 v) (s.setSP (s.sp - 1)) with
  | error x =>
    constructor
    · intro h'; cases h'
    · rintro ⟨t, ht, -⟩; rw [← busWrite8_ok, h] at ht; cases ht
  | ok t =>
    rw [busWrite8_ok] at h
    have hsp : t.sp = s.sp - 1 := by
      rw [poke8_frame h]
      rfl
    constructor
    · intro h'
      refine ⟨t, h, ?_⟩
      rw [← hsp]
      exact busWrite8_ok.1 h'
    · rintro ⟨t', h1, h2⟩
      rw [h] at h1
      cases h1
      rw [← hsp] at h2
      exact busWrite8_ok.2 h2

/-- A pop reads the low byte at SP and the high byte above it, and moves SP past both; nothing else changes. -/
theorem pop16_ok {s t : State} {v : Word} :
    pop16 s = .ok (v, t) ↔ ∃ lo hi, peek8 s.sp s = some lo ∧ peek8 (s.sp + 1) s = some hi ∧ v = join hi lo ∧
      t = s.setSP (s.sp + 1 + 1) := by
  have hc : ∀ a, peek8 a (s.setSP (s.sp + 1)) = peek8 a s := peek8_congr rfl rfl rfl
  unfold pop16
  cases hl : busRead8 s.sp s with
  | error x =>
    constructor
    · intro h; cases h
    · rintro ⟨lo, hi, h, -⟩; rw [← busRead8_ok, hl] at h; cases h
  | ok lo =>
    rw [busRead8_ok] at hl
    cases hh : busRead8 (s.sp + 1) (s.setSP (s.sp + 1)) with
    | error x =>
      constructor
      · intro h; cases h
      · rintro ⟨_, _, -, h, -⟩; rw [← hc, ← busRead8_ok, hh] at h; cases h
    | ok hi =>
      rw [busRead8_ok, hc] at hh
      constructor
      · intro h
        cases Except.ok.inj h
        exact ⟨lo, hi, hl, hh, rfl, rfl⟩
      · rintro ⟨lo', hi', h1, h2, rfl, rfl⟩
        rw [hl] at h1
        rw [hh] at h2
        cases h1
        cases h2
        rfl

end Sys2Proof.Machine
end

