-- ==== Sys2Proof/Laws/Effects.lean ====
section
/-! SUPPORT. One lemma per shared body: everything it has done when it completes, and the only fault it can raise. -/

namespace Sys2Proof.Machine

open Host

/-! ### The charged state -/

/-- `Charge(n)` with n at least 1, as one update. -/
theorem charge_eq_charged {n : Nat} (h : 0 < n) (s : State) : s.charge n = charged n s := by
  obtain ⟨m, rfl⟩ := Nat.exists_eq_succ_of_ne_zero (by omega : n ≠ 0)
  exact s.charge_succ m

@[simp] theorem peek8_charged (n : Nat) (a : Word) (s : State) : peek8 a (charged n s) = peek8 a s := peek8_congr rfl rfl rfl a

@[simp] theorem getReg_charged (n : Nat) (r : Reg8) (s : State) : (charged n s).getReg r = s.getReg r := by cases r <;> rfl

/-! ### What a body has done -/

/-- Everything a body that completes does, from `s` before CHARGE to `t`: `len` is how far pc moves (`none` for a body that writes
a target), `cost` what was charged, `regs`, `spw` and `stores` the registers, SP and addresses it may write, `z n h c` the
flag characters (R174), and `ime` and `imn` the latches after. -/
structure BodyEffect (s t : State) (len : Option Word) (cost : Nat) (regs : List Reg8) (spw : Bool) (stores : List Word)
    (z n h c : FlagEffect) (ime : Bool) (imn : Bool) : Prop where
  cfg : t.cfg = s.cfg
  run : t.run = s.run
  inv : StorageInv s → StorageInv t
  reg : ∀ r, r ∉ regs → t.getReg r = s.getReg r
  sp : spw = false → t.sp = s.sp
  mem : ∀ a, (∀ b ∈ stores, ¬ sameStorage s.cfg a b) → peek8 a t = peek8 a s
  fz : z.admits s.flagZ t.flagZ
  fn : n.admits s.flagN t.flagN
  fh : h.admits s.flagH t.flagH
  fc : c.admits s.flagC t.flagC
  pc : ∀ l, len = some l → t.pc = s.pc + l
  cyc : t.cycles = s.cycles + cost
  im : t.ime = ime
  imn : t.imeNext = imn

/-- The register a destination operand names. -/
abbrev Place.written : Place → List Reg8 | .reg r => [r] | .mem _ => []
/-- The address a destination operand stores to. -/
abbrev Place.stored : Place → List Word | .reg _ => [] | .mem a => [a]

theorem StorageInv_congr {s t : State} (h1 : t.mem = s.mem) (h2 : t.cfg = s.cfg) (h : StorageInv s) : StorageInv t := by
  unfold StorageInv at *; rw [h1, h2]; exact h

/-- A body that stores nothing. -/
theorem BodyEffect.pure {s t : State} {len cost regs spw z n h c ime imn} (h1 : t.mem = s.mem) (h2 : t.ie = s.ie) (h3 : t.cfg = s.cfg) (h4 : t.run = s.run)
  (hr : ∀ r, r ∉ regs → t.getReg r = s.getReg r) (hs : spw = false → t.sp = s.sp)
  (fz : z.admits s.flagZ t.flagZ) (fn : n.admits s.flagN t.flagN) (fh : h.admits s.flagH t.flagH) (fc : c.admits s.flagC t.flagC)
  (pc : ∀ l, len = some l → t.pc = s.pc + l) (cyc : t.cycles = s.cycles + cost) (im : t.ime = ime) (imn' : t.imeNext = imn) :
  BodyEffect s t len cost regs spw [] z n h c ime imn := 
  ⟨h3, h4, StorageInv_congr h1 h3, hr, hs, fun a _ => peek8_congr h1 h2 h3 a, fz, fn, fh, fc, pc, cyc, im, imn'⟩

/-- A body that stores one byte. -/
theorem BodyEffect.store {s s1 t u : State} {a v} {len cost regs spw z n h c ime imn} (hp : poke8 a v s1 = some u)
  (g1 : s1.mem = s.mem) (g2 : s1.ie = s.ie) (g3 : s1.cfg = s.cfg)
  (h1 : t.mem = u.mem) (h2 : t.ie = u.ie) (h3 : t.cfg = s.cfg) (h4 : t.run = s.run)
  (hr : ∀ r, r ∉ regs → t.getReg r = s.getReg r) (hs : spw = false → t.sp = s.sp)
  (fz : z.admits s.flagZ t.flagZ) (fn : n.admits s.flagN t.flagN) (fh : h.admits s.flagH t.flagH) (fc : c.admits s.flagC t.flagC)
  (pc : ∀ l, len = some l → t.pc = s.pc + l) (cyc : t.cycles = s.cycles + cost) (im : t.ime = ime) (imn' : t.imeNext = imn) :
  BodyEffect s t len cost regs spw [a] z n h c ime imn := by
  have hu : u.cfg = s.cfg := by rw [poke8_frame hp]; exact g3
  refine ⟨h3, h4, fun hi => StorageInv_congr h1 (h3.trans hu.symm) (poke8_inv hp (StorageInv_congr g1 g3 hi)), hr, hs, fun b hb => ?_, fz, fn, fh, fc, pc, cyc, im, imn'⟩
  rw [peek8_congr h1 h2 (h3.trans hu.symm), poke8_other hp, peek8_congr g1 g2 g3]
  rw [g3]; exact hb a (List.mem_singleton_self a)

/-- A body that stores two bytes. -/
theorem BodyEffect.store2 {s s1 s2 t u w : State} {a v a' v'} {len cost regs spw z n h c ime imn} (hp : poke8 a v s1 = some u) (hq : poke8 a' v' s2 = some w)
  (g1 : s1.mem = s.mem) (g2 : s1.ie = s.ie) (g3 : s1.cfg = s.cfg)
  (k1 : s2.mem = u.mem) (k2 : s2.ie = u.ie) (k3 : s2.cfg = s.cfg)
  (h1 : t.mem = w.mem) (h2 : t.ie = w.ie) (h3 : t.cfg = s.cfg) (h4 : t.run = s.run)
  (hr : ∀ r, r ∉ regs → t.getReg r = s.getReg r) (hs : spw = false → t.sp = s.sp)
  (fz : z.admits s.flagZ t.flagZ) (fn : n.admits s.flagN t.flagN) (fh : h.admits s.flagH t.flagH) (fc : c.admits s.flagC t.flagC)
  (pc : ∀ l, len = some l → t.pc = s.pc + l) (cyc : t.cycles = s.cycles + cost) (im : t.ime = ime) (imn' : t.imeNext = imn) :
  BodyEffect s t len cost regs spw [a, a'] z n h c ime imn := by
  have hu : u.cfg = s.cfg := by rw [poke8_frame hp]; exact g3
  have hw : w.cfg = s.cfg := by rw [poke8_frame hq]; exact k3
  refine ⟨h3, h4, fun hi => StorageInv_congr h1 (h3.trans hw.symm) (poke8_inv hq (StorageInv_congr k1 (k3.trans hu.symm) (poke8_inv hp (StorageInv_congr g1 g3 hi)))), hr, hs, fun b hb => ?_, fz, fn, fh, fc, pc, cyc, im, imn'⟩
  rw [peek8_congr h1 h2 (h3.trans hw.symm), poke8_other hq, peek8_congr k1 k2 (k3.trans hu.symm), poke8_other hp, peek8_congr g1 g2 g3]
  · rw [g3]; exact hb a (by simp)
  · rw [k3]; exact hb a' (by simp)

theorem getReg_setReg_other (s : State) (r q : Reg8) (v : Byte) (h : q ∉ [r]) : (s.setReg r v).getReg q = s.getReg q := by
  cases r <;> cases q <;> first | rfl | simp at h

/-- What `loadR8` has done when it completes. -/
theorem loadR8_effect {d src : Place} {n : Nat} {s t : State} (h : loadR8 d src (charged n s) = .ok t) :
    BodyEffect s t (some 1) n (Place.written d) false (Place.stored d) .keep .keep .keep .keep (s.ime || s.imeNext) false := by
  obtain ⟨v, -, h⟩ := bind_ok.1 h
  obtain ⟨u, hu, h⟩ := bind_ok.1 h
  cases h
  cases d with
  | reg r => cases hu; exact .pure (by cases r <;> rfl) (by cases r <;> rfl) (by cases r <;> rfl) (by cases r <;> rfl) (fun q hq => getReg_setReg_other (charged n s) r q v hq |>.trans (getReg_charged n q s)) (by cases r <;> exact fun _ => rfl) (by cases r <;> rfl) (by cases r <;> rfl) (by cases r <;> rfl) (by cases r <;> rfl) (by rintro l ⟨⟩; cases r <;> rfl) (by cases r <;> rfl) (by cases r <;> rfl) (by cases r <;> rfl)
  | mem a =>
    have hu := setR8_mem_ok.1 hu
    rw [poke8_frame hu]
    exact .store hu rfl rfl rfl rfl rfl rfl rfl (fun q _ => getReg_charged n q s) (fun _ => rfl) rfl rfl rfl rfl (by rintro l ⟨⟩; rfl) rfl rfl rfl

/-- What `loadImm` has done when it completes. -/
theorem loadImm_effect {d : Place} {x : Byte} {n : Nat} {s t : State} (h : loadImm d x (charged n s) = .ok t) :
    BodyEffect s t (some 2) n (Place.written d) false (Place.stored d) .keep .keep .keep .keep (s.ime || s.imeNext) false := by
  obtain ⟨u, hu, h⟩ := bind_ok.1 h
  cases h
  cases d with
  | reg r => cases hu; exact .pure (by cases r <;> rfl) (by cases r <;> rfl) (by cases r <;> rfl) (by cases r <;> rfl) (fun q hq => getReg_setReg_other (charged n s) r q x hq |>.trans (getReg_charged n q s)) (by cases r <;> exact fun _ => rfl) (by cases r <;> rfl) (by cases r <;> rfl) (by cases r <;> rfl) (by cases r <;> rfl) (by rintro l ⟨⟩; cases r <;> rfl) (by cases r <;> rfl) (by cases r <;> rfl) (by cases r <;> rfl)
  | mem a =>
    have hu := setR8_mem_ok.1 hu
    rw [poke8_frame hu]
    exact .store hu rfl rfl rfl rfl rfl rfl rfl (fun q _ => getReg_charged n q s) (fun _ => rfl) rfl rfl rfl rfl (by rintro l ⟨⟩; rfl) rfl rfl rfl

/-- What `loadA` has done when it completes. -/
theorem loadA_effect {ad k : Word} {n : Nat} {s t : State} (h : loadA ad k (charged n s) = .ok t) :
    BodyEffect s t (some k) n [.a] false [] .keep .keep .keep .keep (s.ime || s.imeNext) false := by
  obtain ⟨v, -, h⟩ := bind_ok.1 h
  cases h
  exact .pure rfl rfl rfl rfl (fun q hq => getReg_setReg_other (charged n s) .a q v hq |>.trans (getReg_charged n q s)) (fun _ => rfl) rfl rfl rfl rfl (by rintro l ⟨⟩; rfl) rfl rfl rfl

/-- What `storeA` has done when it completes. -/
theorem storeA_effect {ad k : Word} {n : Nat} {s t : State} (h : storeA ad k (charged n s) = .ok t) :
    BodyEffect s t (some k) n [] false [ad] .keep .keep .keep .keep (s.ime || s.imeNext) false := by
  obtain ⟨u, hu, h⟩ := bind_ok.1 h
  cases h
  have hu := busWrite8_ok.1 hu
  rw [poke8_frame hu]
  exact .store hu rfl rfl rfl rfl rfl rfl rfl (fun q _ => getReg_charged n q s) (fun _ => rfl) rfl rfl rfl rfl (by rintro l ⟨⟩; rfl) rfl rfl rfl

/-- What `loadAStep` has done when it completes. -/
theorem loadAStep_effect {m : Word → Word} {ad : Word} {n : Nat} {s t : State} (h : loadAStep m ad (charged n s) = .ok t) :
    BodyEffect s t (some 1) n [.a, .h, .l] false [] .keep .keep .keep .keep (s.ime || s.imeNext) false := by
  obtain ⟨v, -, h⟩ := bind_ok.1 h
  cases h
  exact .pure rfl rfl rfl rfl (fun q hq => by cases q <;> first | rfl | simp at hq) (fun _ => rfl) rfl rfl rfl rfl (by rintro l ⟨⟩; rfl) rfl rfl rfl

/-- What `storeAStep` has done when it completes. -/
theorem storeAStep_effect {m : Word → Word} {ad : Word} {n : Nat} {s t : State} (h : storeAStep m ad (charged n s) = .ok t) :
    BodyEffect s t (some 1) n [.h, .l] false [ad] .keep .keep .keep .keep (s.ime || s.imeNext) false := by
  obtain ⟨u, hu, h⟩ := bind_ok.1 h
  cases h
  have hu := busWrite8_ok.1 hu
  rw [poke8_frame hu]
  exact .store hu rfl rfl rfl rfl rfl rfl rfl (fun q hq => by cases q <;> first | rfl | simp at hq) (fun _ => rfl) rfl rfl rfl rfl (by rintro l ⟨⟩; rfl) rfl rfl rfl

/-- The two halves of a pair. -/
abbrev Pair.regs : Pair → List Reg8 | .bc => [.b,.c] | .de => [.d,.e] | .hl => [.h,.l] | .sp => []
/-- Whether a pair is SP. -/
abbrev Pair.isSP : Pair → Bool | .sp => true | _ => false
/-- The registers of a stack pair that are not flags. -/
abbrev StackPair.regs : StackPair → List Reg8 | .bc => [.b,.c] | .de => [.d,.e] | .hl => [.h,.l] | .af => [.a]

/-- What `setPair` has done when it completes. -/
theorem setPair_effect {p : Pair} {v k : Word} {n : Nat} {s : State} :
    BodyEffect s (((charged n s).setPair p v).advance k) (some k) n (Pair.regs p) (Pair.isSP p) [] .keep .keep .keep .keep (s.ime || s.imeNext) false := by
  cases p <;> exact .pure rfl rfl rfl rfl (fun q hq => by cases q <;> first | rfl | simp at hq) (fun h => by first | rfl | cases h) rfl rfl rfl rfl (by rintro l ⟨⟩; rfl) rfl rfl rfl

/-- What `storeSP` has done when it completes. -/
theorem storeSP_effect {nn : Word} {n : Nat} {s t : State} (h : storeSP nn (charged n s) = .ok t) :
    BodyEffect s t (some 3) n [] false [nn, nn + 1] .keep .keep .keep .keep (s.ime || s.imeNext) false := by
  obtain ⟨u, hu, h⟩ := bind_ok.1 h
  cases h
  obtain ⟨w, hw, hu⟩ := memWrite16_ok.1 hu
  have e1 := poke8_frame hw
  have e2 := poke8_frame hu
  rw [e2, e1]
  exact .store2 hw hu rfl rfl rfl rfl rfl (by rw [e1]; rfl) rfl rfl rfl rfl (fun q _ => getReg_charged n q s) (fun _ => rfl) rfl rfl rfl rfl (by rintro l ⟨⟩; rfl) rfl rfl rfl

/-- What `loadSPHL` has done when it completes. -/
theorem loadSPHL_effect {n : Nat} {s t : State} (h : loadSPHL (charged n s) = .ok t) :
    BodyEffect s t (some 1) n [] true [] .keep .keep .keep .keep (s.ime || s.imeNext) false := by
  cases h; exact .pure rfl rfl rfl rfl (fun q _ => by cases q <;> rfl) (fun h => by cases h) rfl rfl rfl rfl (by rintro l ⟨⟩; rfl) rfl rfl rfl

/-- What `loadHLSPDisp` has done when it completes. -/
theorem loadHLSPDisp_effect {e : Byte} {n : Nat} {s t : State} (h : loadHLSPDisp e (charged n s) = .ok t) :
    BodyEffect s t (some 2) n [.h, .l] false [] .zero .zero .result .result (s.ime || s.imeNext) false := by
  cases h; exact .pure rfl rfl rfl rfl (fun q hq => by cases q <;> first | rfl | simp at hq) (fun _ => rfl) rfl rfl trivial trivial (by rintro l ⟨⟩; rfl) rfl rfl rfl

/-- What `push16` has done when it completes. -/
theorem push16_effect {v x : Word} {len : Option Word} {n : Nat} {s u : State} (h : push16 v (charged n s) = .ok u) (hx : ∀ l, len = some l → x = s.pc + l) :
    BodyEffect s (u.setPC x) len n [] true [s.sp - 1, s.sp - 1 - 1] .keep .keep .keep .keep (s.ime || s.imeNext) false := by
  obtain ⟨w, hw, hu⟩ := push16_ok.1 h
  have e1 := poke8_frame hw
  have e2 := poke8_frame hu
  rw [e2, e1]
  exact .store2 hw hu rfl rfl rfl rfl rfl (by rw [e1]; rfl) rfl rfl rfl rfl (fun q _ => by cases q <;> rfl) (fun h => by cases h) rfl rfl rfl rfl hx rfl rfl rfl

/-- What `pushPair` has done when it completes. -/
theorem pushPair_effect {p} {n : Nat} {s t : State} (h : pushPair p (charged n s) = .ok t) :
    BodyEffect s t (some 1) n [] true [s.sp - 1, s.sp - 1 - 1] .keep .keep .keep .keep (s.ime || s.imeNext) false := by
  obtain ⟨u, hu, h⟩ := bind_ok.1 h
  cases h
  refine push16_effect hu ?_
  rintro l ⟨⟩
  obtain ⟨w, hw, hu⟩ := push16_ok.1 hu
  rw [poke8_frame hu]; show w.pc + 1 = _; rw [poke8_frame hw]; rfl

/-- What `callTo` has done when it completes. -/
theorem callTo_effect {nn} {n : Nat} {s t : State} (h : callTo nn (charged n s) = .ok t) :
    BodyEffect s t none n [] true [s.sp - 1, s.sp - 1 - 1] .keep .keep .keep .keep (s.ime || s.imeNext) false := by
  obtain ⟨u, hu, h⟩ := bind_ok.1 h
  cases h
  exact push16_effect hu (fun l h => by cases h)

/-- What `restart` has done when it completes. -/
theorem restart_effect {k} {n : Nat} {s t : State} (h : restart k (charged n s) = .ok t) :
    BodyEffect s t none n [] true [s.sp - 1, s.sp - 1 - 1] .keep .keep .keep .keep (s.ime || s.imeNext) false := by
  obtain ⟨u, hu, h⟩ := bind_ok.1 h
  cases h
  exact push16_effect hu (fun l h => by cases h)

/-- What `popPair` has done when it completes. -/
theorem popPair_effect {p} {n : Nat} {s t : State} (h : popPair p (charged n s) = .ok t) (f : FlagEffect) (hf : f = match p with | .af => .result | _ => .keep) :
    BodyEffect s t (some 1) n (StackPair.regs p) true [] f f f f (s.ime || s.imeNext) false := by
  obtain ⟨⟨v, u⟩, hu, h⟩ := bind_ok.1 h
  obtain ⟨lo, hi, -, -, -, rfl⟩ := pop16_ok.1 hu
  cases h
  subst hf
  cases p <;> exact .pure rfl rfl rfl rfl (fun q hq => by cases q <;> first | rfl | simp at hq) (fun h => by cases h) (by trivial) (by trivial) (by trivial) (by trivial) (by rintro l ⟨⟩; rfl) rfl rfl rfl

/-- What `returnBody` has done when it completes. -/
theorem returnBody_effect {n : Nat} {s t : State} (h : returnBody (charged n s) = .ok t) :
    BodyEffect s t none n [] true [] .keep .keep .keep .keep (s.ime || s.imeNext) false := by
  obtain ⟨⟨v, u⟩, hu, h⟩ := bind_ok.1 h
  obtain ⟨lo, hi, -, -, -, rfl⟩ := pop16_ok.1 hu
  cases h
  exact .pure rfl rfl rfl rfl (fun q hq => by cases q <;> rfl) (fun h => by cases h) rfl rfl rfl rfl (fun l h => by cases h) rfl rfl rfl

/-- What RETI has done when it completes, as one state. -/
theorem retiState_effect {n : Nat} {s t : State} {v} (h : t = ((((charged n s).setSP ((charged n s).sp + 1 + 1)).setPC v).setIme true)) :
    BodyEffect s t none n [] true [] .keep .keep .keep .keep true false := by
  subst h
  have hr : ∀ q, ((((charged n s).setSP ((charged n s).sp + 1 + 1)).setPC v).setIme true).getReg q = s.getReg q := by
    intro q
    cases q <;> simp [State.getReg, charged]
  refine .pure ?_ ?_ ?_ ?_ (fun q _ => hr q) (fun h => by cases h) ?_ ?_ ?_ ?_ (fun l h => by cases h) ?_ ?_ ?_ <;>
    simp [FlagEffect.admits, charged]

/-- What `retiBody` has done when it completes. -/
theorem retiBody_effect {n : Nat} {s t : State} (h : retiBody (charged n s) = .ok t) :
    BodyEffect s t none n [] true [] .keep .keep .keep .keep true false := by
  obtain ⟨⟨v, u⟩, hu, h⟩ := bind_ok.1 h
  obtain ⟨lo, hi, -, -, -, rfl⟩ := pop16_ok.1 hu
  exact retiState_effect (Except.ok.inj h).symm

/-- The register an ALU operation writes. -/
abbrev AluOp.written : AluOp → List Reg8 | .cp => [] | _ => [.a]
/-- The N, H and C characters of an ALU operation. -/
abbrev AluOp.flags (op : AluOp) : FlagEffect × FlagEffect × FlagEffect := match op with
 | .add | .adc => (.zero, .result, .result) | .sub | .sbc | .cp => (.one, .result, .result) | .and => (.zero, .one, .zero) | .xor | .or => (.zero, .zero, .zero)

/-- What `aluApply` has done when it completes. -/
theorem aluApply_effect {op : AluOp} {v : Byte} {k : Word} {n : Nat} {s : State} :
    BodyEffect s ((aluApply op v (charged n s)).advance k) (some k) n (AluOp.written op) false [] .result (AluOp.flags op).1 (AluOp.flags op).2.1 (AluOp.flags op).2.2 (s.ime || s.imeNext) false := by
  cases op <;> exact .pure rfl rfl rfl rfl (fun q hq => by cases q <;> first | rfl | simp at hq) (fun _ => rfl) True.intro (by first | exact True.intro | exact rfl) (by first | exact True.intro | exact rfl) (by first | exact True.intro | exact rfl) (by rintro l ⟨⟩; rfl) rfl rfl rfl

/-- What `aluR8` has done when it completes. -/
theorem aluR8_effect {op : AluOp} {r} {n : Nat} {s t : State} (h : aluR8 op r (charged n s) = .ok t) :
    BodyEffect s t (some 1) n (AluOp.written op) false [] .result (AluOp.flags op).1 (AluOp.flags op).2.1 (AluOp.flags op).2.2 (s.ime || s.imeNext) false := by
  obtain ⟨v, -, h⟩ := bind_ok.1 h
  cases h; exact aluApply_effect

/-- What `aluImm` has done when it completes. -/
theorem aluImm_effect {op : AluOp} {x} {n : Nat} {s t : State} (h : aluImm op x (charged n s) = .ok t) :
    BodyEffect s t (some 2) n (AluOp.written op) false [] .result (AluOp.flags op).1 (AluOp.flags op).2.1 (AluOp.flags op).2.2 (s.ime || s.imeNext) false := by
  cases h; exact aluApply_effect

/-- What `setR8` has done when it completes. -/
theorem setR8_effect {r : Place} {n : Nat} {x : Byte} {s u t : State} {k : Word} {fz fn fh fc : FlagEffect} (hu : setR8 r x (charged n s) = .ok u)
  (t' : State) (ht : t = t'.advance k) (h0 : t' = { u with flagZ := t'.flagZ, flagN := t'.flagN, flagH := t'.flagH, flagC := t'.flagC })
  (f1 : fz.admits s.flagZ t'.flagZ) (f2 : fn.admits s.flagN t'.flagN) (f3 : fh.admits s.flagH t'.flagH) (f4 : fc.admits s.flagC t'.flagC) :
    BodyEffect s t (some k) n (Place.written r) false (Place.stored r) fz fn fh fc (s.ime || s.imeNext) false := by
  subst ht
  rw [h0]
  cases r with
  | reg r => cases hu; exact .pure (by cases r <;> rfl) (by cases r <;> rfl) (by cases r <;> rfl) (by cases r <;> rfl) (fun q hq => (by cases r <;> cases q <;> first | rfl | simp at hq)) (by cases r <;> exact fun _ => rfl) f1 f2 f3 f4 (by rintro l ⟨⟩; cases r <;> rfl) (by cases r <;> rfl) (by cases r <;> rfl) (by cases r <;> rfl)
  | mem a =>
    have hu := setR8_mem_ok.1 hu
    rw [poke8_frame hu]
    exact .store hu rfl rfl rfl rfl rfl rfl rfl (fun q _ => getReg_charged n q s) (fun _ => rfl) f1 f2 f3 f4 (by rintro l ⟨⟩; rfl) rfl rfl rfl

theorem setR8_flags {r : Place} {n : Nat} {x : Byte} {s u : State} (hu : setR8 r x (charged n s) = .ok u) :
  u.flagZ = s.flagZ ∧ u.flagN = s.flagN ∧ u.flagH = s.flagH ∧ u.flagC = s.flagC := by
  cases r with
  | reg r => cases hu; cases r <;> exact ⟨rfl, rfl, rfl, rfl⟩
  | mem a => rw [poke8_frame (setR8_mem_ok.1 hu)]; exact ⟨rfl, rfl, rfl, rfl⟩

/-- What `incR8` has done when it completes. -/
theorem incR8_effect {r} {n : Nat} {s t : State} (h : incR8 r (charged n s) = .ok t) :
    BodyEffect s t (some 1) n (Place.written r) false (Place.stored r) .result .zero .result .keep (s.ime || s.imeNext) false := by
  obtain ⟨v, -, h⟩ := bind_ok.1 h
  obtain ⟨u, hu, h⟩ := bind_ok.1 h
  cases h
  exact setR8_effect hu _ rfl rfl trivial rfl trivial (setR8_flags hu).2.2.2

/-- What `decR8` has done when it completes. -/
theorem decR8_effect {r} {n : Nat} {s t : State} (h : decR8 r (charged n s) = .ok t) :
    BodyEffect s t (some 1) n (Place.written r) false (Place.stored r) .result .one .result .keep (s.ime || s.imeNext) false := by
  obtain ⟨v, -, h⟩ := bind_ok.1 h
  obtain ⟨u, hu, h⟩ := bind_ok.1 h
  cases h
  exact setR8_effect hu _ rfl rfl trivial rfl trivial (setR8_flags hu).2.2.2

/-- What `rotR8` has done when it completes. -/
theorem rotR8_effect {op r} {n : Nat} {s t : State} (h : rotR8 op r (charged n s) = .ok t) (f) (hf : f = match op with | .swap => FlagEffect.zero | _ => .result) :
    BodyEffect s t (some 2) n (Place.written r) false (Place.stored r) .result .zero .zero f (s.ime || s.imeNext) false := by
  obtain ⟨v, -, h⟩ := bind_ok.1 h
  obtain ⟨u, hu, h⟩ := bind_ok.1 h
  cases h
  exact setR8_effect hu _ rfl rfl trivial rfl rfl (by subst hf; cases op <;> trivial)

/-- What `resR8` has done when it completes. -/
theorem resR8_effect {b r} {n : Nat} {s t : State} (h : resR8 b r (charged n s) = .ok t) :
    BodyEffect s t (some 2) n (Place.written r) false (Place.stored r) .keep .keep .keep .keep (s.ime || s.imeNext) false := by
  obtain ⟨v, -, h⟩ := bind_ok.1 h
  obtain ⟨u, hu, h⟩ := bind_ok.1 h
  cases h
  have := setR8_flags hu
  exact setR8_effect hu _ rfl rfl this.1 this.2.1 this.2.2.1 this.2.2.2

/-- What `setBitR8` has done when it completes. -/
theorem setBitR8_effect {b r} {n : Nat} {s t : State} (h : setBitR8 b r (charged n s) = .ok t) :
    BodyEffect s t (some 2) n (Place.written r) false (Place.stored r) .keep .keep .keep .keep (s.ime || s.imeNext) false := by
  obtain ⟨v, -, h⟩ := bind_ok.1 h
  obtain ⟨u, hu, h⟩ := bind_ok.1 h
  cases h
  have := setR8_flags hu
  exact setR8_effect hu _ rfl rfl this.1 this.2.1 this.2.2.1 this.2.2.2

/-- What `bitR8` has done when it completes. -/
theorem bitR8_effect {b r} {n : Nat} {s t : State} (h : bitR8 b r (charged n s) = .ok t) :
    BodyEffect s t (some 2) n [] false [] .result .zero .one .keep (s.ime || s.imeNext) false := by
  obtain ⟨v, -, h⟩ := bind_ok.1 h
  cases h
  exact .pure rfl rfl rfl rfl (fun q _ => by cases q <;> rfl) (fun _ => rfl) trivial rfl rfl rfl (by rintro l ⟨⟩; rfl) rfl rfl rfl

/-- What `daaBody` has done when it completes. -/
theorem daaBody_effect {n : Nat} {s t : State} (h : daaBody (charged n s) = .ok t) :
    BodyEffect s t (some 1) n [.a] false [] .result .keep .zero .result (s.ime || s.imeNext) false := by
  cases h
  exact .pure rfl rfl rfl rfl (fun q hq => by cases q <;> first | rfl | simp at hq) (fun _ => rfl) trivial rfl rfl trivial (by rintro l ⟨⟩; rfl) rfl rfl rfl

/-- What `cplBody` has done when it completes. -/
theorem cplBody_effect {n : Nat} {s t : State} (h : cplBody (charged n s) = .ok t) :
    BodyEffect s t (some 1) n [.a] false [] .keep .one .one .keep (s.ime || s.imeNext) false := by
  cases h
  exact .pure rfl rfl rfl rfl (fun q hq => by cases q <;> first | rfl | simp at hq) (fun _ => rfl) rfl rfl rfl rfl (by rintro l ⟨⟩; rfl) rfl rfl rfl

/-- What `scfBody` has done when it completes. -/
theorem scfBody_effect {n : Nat} {s t : State} (h : scfBody (charged n s) = .ok t) :
    BodyEffect s t (some 1) n [] false [] .keep .zero .zero .one (s.ime || s.imeNext) false := by
  cases h
  exact .pure rfl rfl rfl rfl (fun q hq => by cases q <;> rfl) (fun _ => rfl) rfl rfl rfl rfl (by rintro l ⟨⟩; rfl) rfl rfl rfl

/-- What `ccfBody` has done when it completes. -/
theorem ccfBody_effect {n : Nat} {s t : State} (h : ccfBody (charged n s) = .ok t) :
    BodyEffect s t (some 1) n [] false [] .keep .zero .zero .result (s.ime || s.imeNext) false := by
  cases h
  exact .pure rfl rfl rfl rfl (fun q hq => by cases q <;> rfl) (fun _ => rfl) rfl rfl rfl trivial (by rintro l ⟨⟩; rfl) rfl rfl rfl

/-- What `addHL` has done when it completes. -/
theorem addHL_effect {p} {n : Nat} {s t : State} (h : addHL p (charged n s) = .ok t) :
    BodyEffect s t (some 1) n [.h, .l] false [] .keep .zero .result .result (s.ime || s.imeNext) false := by
  cases h
  exact .pure rfl rfl rfl rfl (fun q hq => by cases q <;> first | rfl | simp at hq) (fun _ => rfl) rfl rfl trivial trivial (by rintro l ⟨⟩; rfl) rfl rfl rfl

/-- What `rotA` has done when it completes. -/
theorem rotA_effect {op} {n : Nat} {s t : State} (h : rotA op (charged n s) = .ok t) :
    BodyEffect s t (some 1) n [.a] false [] .zero .zero .zero .result (s.ime || s.imeNext) false := by
  cases h
  exact .pure rfl rfl rfl rfl (fun q hq => by cases q <;> first | rfl | simp at hq) (fun _ => rfl) rfl rfl rfl trivial (by rintro l ⟨⟩; rfl) rfl rfl rfl

/-- What `setPC` has done when it completes. -/
theorem setPC_effect {x : Word} {n : Nat} {s : State} {len : Option Word} (hx : ∀ l, len = some l → x = s.pc + l) :
    BodyEffect s ((charged n s).setPC x) len n [] false [] .keep .keep .keep .keep (s.ime || s.imeNext) false :=
  .pure rfl rfl rfl rfl (fun q _ => by cases q <;> rfl) (fun _ => rfl) rfl rfl rfl rfl hx rfl rfl rfl

/-- What `skip` has done when it completes. -/
theorem skip_effect {k} {n : Nat} {s t : State} (h : skip k (charged n s) = .ok t) :
    BodyEffect s t (some k) n [] false [] .keep .keep .keep .keep (s.ime || s.imeNext) false := by
  cases h; exact setPC_effect (by rintro l ⟨⟩; rfl)

/-- What `nopBody` has done when it completes. -/
theorem nopBody_effect {n : Nat} {s t : State} (h : nopBody (charged n s) = .ok t) :
    BodyEffect s t (some 1) n [] false [] .keep .keep .keep .keep (s.ime || s.imeNext) false := by
  cases h; exact setPC_effect (by rintro l ⟨⟩; rfl)

/-- What `jumpTo` has done when it completes. -/
theorem jumpTo_effect {nn} {n : Nat} {s t : State} (h : jumpTo nn (charged n s) = .ok t) :
    BodyEffect s t none n [] false [] .keep .keep .keep .keep (s.ime || s.imeNext) false := by
  cases h; exact setPC_effect (fun l h => by cases h)

/-- What `jumpHL` has done when it completes. -/
theorem jumpHL_effect {n : Nat} {s t : State} (h : jumpHL (charged n s) = .ok t) :
    BodyEffect s t none n [] false [] .keep .keep .keep .keep (s.ime || s.imeNext) false := by
  cases h; exact setPC_effect (fun l h => by cases h)

/-- What `jumpRel` has done when it completes. -/
theorem jumpRel_effect {e} {n : Nat} {s t : State} (h : jumpRel e (charged n s) = .ok t) :
    BodyEffect s t none n [] false [] .keep .keep .keep .keep (s.ime || s.imeNext) false := by
  cases h; exact setPC_effect (fun l h => by cases h)

/-- What `diBody` has done when it completes. -/
theorem diBody_effect {n : Nat} {s t : State} (h : diBody (charged n s) = .ok t) :
    BodyEffect s t (some 1) n [] false [] .keep .keep .keep .keep false false := by
  cases h; exact .pure rfl rfl rfl rfl (fun q _ => by cases q <;> rfl) (fun _ => rfl) rfl rfl rfl rfl (by rintro l ⟨⟩; rfl) rfl rfl rfl

/-- What `eiBody` has done when it completes. -/
theorem eiBody_effect {n : Nat} {s t : State} (h : eiBody (charged n s) = .ok t) :
    BodyEffect s t (some 1) n [] false [] .keep .keep .keep .keep (s.ime || s.imeNext) true := by
  cases h; exact .pure rfl rfl rfl rfl (fun q _ => by cases q <;> rfl) (fun _ => rfl) rfl rfl rfl rfl (by rintro l ⟨⟩; rfl) rfl rfl rfl

/-! ### What a body can fault with -/

/-- A fault an access of a body can raise, and the only one: `UnmappedAccess` at an address with nothing behind it, with the pc of
the step (R424). -/
def GapFault (s : State) (f : Fault) : Prop := ∃ a k, f = .unmappedAccess a k s.pc ∧ slotOf s.cfg a = .unmapped

/-- The only fault of `busRead8`. -/
theorem busRead8_gap {a s f} (h : busRead8 a s = .error f) : GapFault s f := by
  obtain ⟨h', rfl⟩ := busRead8_error.1 h; exact ⟨_, _, rfl, (peek8_eq_none _ _).1 h'⟩

/-- The only fault of `busWrite8`. -/
theorem busWrite8_gap {a v s f} (h : busWrite8 a v s = .error f) : GapFault s f := by
  obtain ⟨h', rfl⟩ := busWrite8_error.1 h; exact ⟨_, _, rfl, (peek8_eq_none _ _).1 h'⟩

/-- The only fault of `getR8`. -/
theorem getR8_gap {r s f} (h : getR8 r s = .error f) : GapFault s f := by
  cases r with
  | reg r => cases h
  | mem a => exact busRead8_gap h

/-- The only fault of `setR8`. -/
theorem setR8_gap {r v s f} (h : setR8 r v s = .error f) : GapFault s f := by
  cases r with
  | reg r => cases h
  | mem a => exact busWrite8_gap h
theorem GapFault_congr {s t : State} {f} (h1 : t.pc = s.pc) (h2 : t.cfg = s.cfg) (h : GapFault t f) : GapFault s f := by
  unfold GapFault at *; rwa [h1, h2] at h

/-- The only fault of `push16`. -/
theorem push16_gap {v s f} (h : push16 v s = .error f) : GapFault s f := by
  unfold push16 at h
  split at h
  · rename_i h1; cases h; exact GapFault_congr (t := s.setSP (s.sp - 1)) rfl rfl (busWrite8_gap h1)
  · rename_i t ht
    have e := poke8_frame (busWrite8_ok.1 ht)
    refine GapFault_congr ?_ ?_ (busWrite8_gap h)
    · show t.pc = _; rw [e]; rfl
    · show t.cfg = _; rw [e]; rfl

/-- The only fault of `pop16`. -/
theorem pop16_gap {s f} (h : pop16 s = .error f) : GapFault s f := by
  unfold pop16 at h
  split at h
  · rename_i h1; cases h; exact busRead8_gap h1
  · split at h
    · rename_i h1; cases h; exact GapFault_congr (t := s.setSP (s.sp+1)) rfl rfl (busRead8_gap h1)
    · cases h

/-- The only fault of `memWrite16`. -/
theorem memWrite16_gap {a v s f} (h : memWrite16 a v s = .error f) : GapFault s f := by
  unfold memWrite16 at h
  split at h
  · rename_i h1; cases h; exact busWrite8_gap h1
  · rename_i t ht
    have e := poke8_frame (busWrite8_ok.1 ht)
    refine GapFault_congr ?_ ?_ (busWrite8_gap h)
    · show t.pc = _; rw [e]
    · show t.cfg = _; rw [e]

/-- The only fault of `loadR8`. -/
theorem loadR8_gap {d r s f} (h : loadR8 d r s = .error f) : GapFault s f := by
  rcases bind_error.1 h with h | ⟨_, _, h⟩
  · exact getR8_gap h
  · rcases bind_error.1 h with h | ⟨_, _, h⟩
    · exact setR8_gap h
    · cases h

/-- The only fault of `loadImm`. -/
theorem loadImm_gap {d r s f} (h : loadImm d r s = .error f) : GapFault s f := by
  rcases bind_error.1 h with h | ⟨_, _, h⟩
  · exact setR8_gap h
  · cases h

/-- The only fault of `incR8`. -/
theorem incR8_gap {r s f} (h : incR8 r s = .error f) : GapFault s f := by
  rcases bind_error.1 h with h | ⟨_, _, h⟩
  · exact getR8_gap h
  · rcases bind_error.1 h with h | ⟨_, _, h⟩
    · exact setR8_gap h
    · cases h

/-- The only fault of `decR8`. -/
theorem decR8_gap {r s f} (h : decR8 r s = .error f) : GapFault s f := by
  rcases bind_error.1 h with h | ⟨_, _, h⟩
  · exact getR8_gap h
  · rcases bind_error.1 h with h | ⟨_, _, h⟩
    · exact setR8_gap h
    · cases h

/-- The only fault of `rotR8`. -/
theorem rotR8_gap {o r s f} (h : rotR8 o r s = .error f) : GapFault s f := by
  rcases bind_error.1 h with h | ⟨_, _, h⟩
  · exact getR8_gap h
  · rcases bind_error.1 h with h | ⟨_, _, h⟩
    · exact setR8_gap h
    · cases h

/-- The only fault of `resR8`. -/
theorem resR8_gap {o r s f} (h : resR8 o r s = .error f) : GapFault s f := by
  rcases bind_error.1 h with h | ⟨_, _, h⟩
  · exact getR8_gap h
  · rcases bind_error.1 h with h | ⟨_, _, h⟩
    · exact setR8_gap h
    · cases h

/-- The only fault of `setBitR8`. -/
theorem setBitR8_gap {o r s f} (h : setBitR8 o r s = .error f) : GapFault s f := by
  rcases bind_error.1 h with h | ⟨_, _, h⟩
  · exact getR8_gap h
  · rcases bind_error.1 h with h | ⟨_, _, h⟩
    · exact setR8_gap h
    · cases h

/-- The only fault of `bitR8`. -/
theorem bitR8_gap {o r s f} (h : bitR8 o r s = .error f) : GapFault s f := by
  rcases bind_error.1 h with h | ⟨_, _, h⟩
  · exact getR8_gap h
  · cases h

/-- The only fault of `aluR8`. -/
theorem aluR8_gap {o r s f} (h : aluR8 o r s = .error f) : GapFault s f := by
  rcases bind_error.1 h with h | ⟨_, _, h⟩
  · exact getR8_gap h
  · cases h

/-- The only fault of `loadA`. -/
theorem loadA_gap {o r s f} (h : loadA o r s = .error f) : GapFault s f := by
  rcases bind_error.1 h with h | ⟨_, _, h⟩
  · exact busRead8_gap h
  · cases h

/-- The only fault of `storeA`. -/
theorem storeA_gap {o r s f} (h : storeA o r s = .error f) : GapFault s f := by
  rcases bind_error.1 h with h | ⟨_, _, h⟩
  · exact busWrite8_gap h
  · cases h

/-- The only fault of `loadAStep`. -/
theorem loadAStep_gap {o a s f} (h : loadAStep o a s = .error f) : GapFault s f := by
  rcases bind_error.1 h with h | ⟨_, _, h⟩
  · exact busRead8_gap h
  · cases h

/-- The only fault of `storeAStep`. -/
theorem storeAStep_gap {o a s f} (h : storeAStep o a s = .error f) : GapFault s f := by
  rcases bind_error.1 h with h | ⟨_, _, h⟩
  · exact busWrite8_gap h
  · cases h

/-- The only fault of `storeSP`. -/
theorem storeSP_gap {o s f} (h : storeSP o s = .error f) : GapFault s f := by
  rcases bind_error.1 h with h | ⟨_, _, h⟩
  · exact memWrite16_gap h
  · cases h

/-- The only fault of `pushPair`. -/
theorem pushPair_gap {o s f} (h : pushPair o s = .error f) : GapFault s f := by
  rcases bind_error.1 h with h | ⟨_, _, h⟩
  · exact push16_gap h
  · cases h

/-- The only fault of `callTo`. -/
theorem callTo_gap {o s f} (h : callTo o s = .error f) : GapFault s f := by
  rcases bind_error.1 h with h | ⟨_, _, h⟩
  · exact push16_gap h
  · cases h

/-- The only fault of `restart`. -/
theorem restart_gap {o s f} (h : restart o s = .error f) : GapFault s f := by
  rcases bind_error.1 h with h | ⟨_, _, h⟩
  · exact push16_gap h
  · cases h

/-- The only fault of `popPair`. -/
theorem popPair_gap {o s f} (h : popPair o s = .error f) : GapFault s f := by
  rcases bind_error.1 h with h | ⟨_, _, h⟩
  · exact pop16_gap h
  · cases h

/-- The only fault of `returnBody`. -/
theorem returnBody_gap {s f} (h : returnBody s = .error f) : GapFault s f := by
  rcases bind_error.1 h with h | ⟨_, _, h⟩
  · exact pop16_gap h
  · cases h

/-- The only fault of `retiBody`. -/
theorem retiBody_gap {s f} (h : retiBody s = .error f) : GapFault s f := by
  rcases bind_error.1 h with h | ⟨_, _, h⟩
  · exact pop16_gap h
  · cases h

end Sys2Proof.Machine
end

