-- ==== Sys2Proof/Laws/PerInstr.lean ====
section
/-! SUPPORT. The per-instruction family `EncodedLength`, about the instruction as syntax: its encoding has at least one byte, at
most as many as the table's row gives the instruction, and the table gives at most three (30_encoding.md R111). STOP and
ADD SP,e are encoded in one byte, because decode reads no further byte of theirs (R128; log entry 8). -/

namespace Sys2Proof.Laws.EncodedLength

/-- The length of an instruction's encoding lies between one byte and the row's length, which is at most three. -/
def Statement (i : Instr) : Prop := 1 ≤ (encode i).length ∧ (encode i).length ≤ i.row.length ∧ i.row.length ≤ 3

theorem of_check {i : Instr} (h : decide (1 ≤ (encode i).length ∧ (encode i).length ≤ i.row.length ∧ i.row.length ≤ 3) = true) :
    Statement i := by
  unfold Statement
  exact of_decide_eq_true h

theorem nop : Statement .nop := of_check rfl
theorem ldBCImm16 (nn : Word) : Statement (.ldBCImm16 nn) := of_check rfl
theorem ldAtBCA : Statement .ldAtBCA := of_check rfl
theorem incBC : Statement .incBC := of_check rfl
theorem incB : Statement .incB := of_check rfl
theorem decB : Statement .decB := of_check rfl
theorem ldBImm (n : Byte) : Statement (.ldBImm n) := of_check rfl
theorem rlca : Statement .rlca := of_check rfl
theorem ldAtImm16SP (nn : Word) : Statement (.ldAtImm16SP nn) := of_check rfl
theorem addHLBC : Statement .addHLBC := of_check rfl
theorem ldAAtBC : Statement .ldAAtBC := of_check rfl
theorem decBC : Statement .decBC := of_check rfl
theorem incC : Statement .incC := of_check rfl
theorem decC : Statement .decC := of_check rfl
theorem ldCImm (n : Byte) : Statement (.ldCImm n) := of_check rfl
theorem rrca : Statement .rrca := of_check rfl
theorem stop : Statement .stop := of_check rfl
theorem ldDEImm16 (nn : Word) : Statement (.ldDEImm16 nn) := of_check rfl
theorem ldAtDEA : Statement .ldAtDEA := of_check rfl
theorem incDE : Statement .incDE := of_check rfl
theorem incD : Statement .incD := of_check rfl
theorem decD : Statement .decD := of_check rfl
theorem ldDImm (n : Byte) : Statement (.ldDImm n) := of_check rfl
theorem rla : Statement .rla := of_check rfl
theorem jrDisp (e : Byte) : Statement (.jrDisp e) := of_check rfl
theorem addHLDE : Statement .addHLDE := of_check rfl
theorem ldAAtDE : Statement .ldAAtDE := of_check rfl
theorem decDE : Statement .decDE := of_check rfl
theorem incE : Statement .incE := of_check rfl
theorem decE : Statement .decE := of_check rfl
theorem ldEImm (n : Byte) : Statement (.ldEImm n) := of_check rfl
theorem rra : Statement .rra := of_check rfl
theorem jrNZDisp (e : Byte) : Statement (.jrNZDisp e) := of_check rfl
theorem ldHLImm16 (nn : Word) : Statement (.ldHLImm16 nn) := of_check rfl
theorem ldAtHLIncA : Statement .ldAtHLIncA := of_check rfl
theorem incHL : Statement .incHL := of_check rfl
theorem incH : Statement .incH := of_check rfl
theorem decH : Statement .decH := of_check rfl
theorem ldHImm (n : Byte) : Statement (.ldHImm n) := of_check rfl
theorem daa : Statement .daa := of_check rfl
theorem jrZDisp (e : Byte) : Statement (.jrZDisp e) := of_check rfl
theorem addHLHL : Statement .addHLHL := of_check rfl
theorem ldAAtHLInc : Statement .ldAAtHLInc := of_check rfl
theorem decHL : Statement .decHL := of_check rfl
theorem incL : Statement .incL := of_check rfl
theorem decL : Statement .decL := of_check rfl
theorem ldLImm (n : Byte) : Statement (.ldLImm n) := of_check rfl
theorem cpl : Statement .cpl := of_check rfl
theorem jrNCDisp (e : Byte) : Statement (.jrNCDisp e) := of_check rfl
theorem ldSPImm16 (nn : Word) : Statement (.ldSPImm16 nn) := of_check rfl
theorem ldAtHLDecA : Statement .ldAtHLDecA := of_check rfl
theorem incSP : Statement .incSP := of_check rfl
theorem incAtHL : Statement .incAtHL := of_check rfl
theorem decAtHL : Statement .decAtHL := of_check rfl
theorem ldAtHLImm (n : Byte) : Statement (.ldAtHLImm n) := of_check rfl
theorem scf : Statement .scf := of_check rfl
theorem jrCDisp (e : Byte) : Statement (.jrCDisp e) := of_check rfl
theorem addHLSP : Statement .addHLSP := of_check rfl
theorem ldAAtHLDec : Statement .ldAAtHLDec := of_check rfl
theorem decSP : Statement .decSP := of_check rfl
theorem incA : Statement .incA := of_check rfl
theorem decA : Statement .decA := of_check rfl
theorem ldAImm (n : Byte) : Statement (.ldAImm n) := of_check rfl
theorem ccf : Statement .ccf := of_check rfl
theorem ldBB : Statement .ldBB := of_check rfl
theorem ldBC : Statement .ldBC := of_check rfl
theorem ldBD : Statement .ldBD := of_check rfl
theorem ldBE : Statement .ldBE := of_check rfl
theorem ldBH : Statement .ldBH := of_check rfl
theorem ldBL : Statement .ldBL := of_check rfl
theorem ldBAtHL : Statement .ldBAtHL := of_check rfl
theorem ldBA : Statement .ldBA := of_check rfl
theorem ldCB : Statement .ldCB := of_check rfl
theorem ldCC : Statement .ldCC := of_check rfl
theorem ldCD : Statement .ldCD := of_check rfl
theorem ldCE : Statement .ldCE := of_check rfl
theorem ldCH : Statement .ldCH := of_check rfl
theorem ldCL : Statement .ldCL := of_check rfl
theorem ldCAtHL : Statement .ldCAtHL := of_check rfl
theorem ldCA : Statement .ldCA := of_check rfl
theorem ldDB : Statement .ldDB := of_check rfl
theorem ldDC : Statement .ldDC := of_check rfl
theorem ldDD : Statement .ldDD := of_check rfl
theorem ldDE : Statement .ldDE := of_check rfl
theorem ldDH : Statement .ldDH := of_check rfl
theorem ldDL : Statement .ldDL := of_check rfl
theorem ldDAtHL : Statement .ldDAtHL := of_check rfl
theorem ldDA : Statement .ldDA := of_check rfl
theorem ldEB : Statement .ldEB := of_check rfl
theorem ldEC : Statement .ldEC := of_check rfl
theorem ldED : Statement .ldED := of_check rfl
theorem ldEE : Statement .ldEE := of_check rfl
theorem ldEH : Statement .ldEH := of_check rfl
theorem ldEL : Statement .ldEL := of_check rfl
theorem ldEAtHL : Statement .ldEAtHL := of_check rfl
theorem ldEA : Statement .ldEA := of_check rfl
theorem ldHB : Statement .ldHB := of_check rfl
theorem ldHC : Statement .ldHC := of_check rfl
theorem ldHD : Statement .ldHD := of_check rfl
theorem ldHE : Statement .ldHE := of_check rfl
theorem ldHH : Statement .ldHH := of_check rfl
theorem ldHL : Statement .ldHL := of_check rfl
theorem ldHAtHL : Statement .ldHAtHL := of_check rfl
theorem ldHA : Statement .ldHA := of_check rfl
theorem ldLB : Statement .ldLB := of_check rfl
theorem ldLC : Statement .ldLC := of_check rfl
theorem ldLD : Statement .ldLD := of_check rfl
theorem ldLE : Statement .ldLE := of_check rfl
theorem ldLH : Statement .ldLH := of_check rfl
theorem ldLL : Statement .ldLL := of_check rfl
theorem ldLAtHL : Statement .ldLAtHL := of_check rfl
theorem ldLA : Statement .ldLA := of_check rfl
theorem ldAtHLB : Statement .ldAtHLB := of_check rfl
theorem ldAtHLC : Statement .ldAtHLC := of_check rfl
theorem ldAtHLD : Statement .ldAtHLD := of_check rfl
theorem ldAtHLE : Statement .ldAtHLE := of_check rfl
theorem ldAtHLH : Statement .ldAtHLH := of_check rfl
theorem ldAtHLL : Statement .ldAtHLL := of_check rfl
theorem halt : Statement .halt := of_check rfl
theorem ldAtHLA : Statement .ldAtHLA := of_check rfl
theorem ldAB : Statement .ldAB := of_check rfl
theorem ldAC : Statement .ldAC := of_check rfl
theorem ldAD : Statement .ldAD := of_check rfl
theorem ldAE : Statement .ldAE := of_check rfl
theorem ldAH : Statement .ldAH := of_check rfl
theorem ldAL : Statement .ldAL := of_check rfl
theorem ldAAtHL : Statement .ldAAtHL := of_check rfl
theorem ldAA : Statement .ldAA := of_check rfl
theorem addAB : Statement .addAB := of_check rfl
theorem addAC : Statement .addAC := of_check rfl
theorem addAD : Statement .addAD := of_check rfl
theorem addAE : Statement .addAE := of_check rfl
theorem addAH : Statement .addAH := of_check rfl
theorem addAL : Statement .addAL := of_check rfl
theorem addAAtHL : Statement .addAAtHL := of_check rfl
theorem addAA : Statement .addAA := of_check rfl
theorem adcAB : Statement .adcAB := of_check rfl
theorem adcAC : Statement .adcAC := of_check rfl
theorem adcAD : Statement .adcAD := of_check rfl
theorem adcAE : Statement .adcAE := of_check rfl
theorem adcAH : Statement .adcAH := of_check rfl
theorem adcAL : Statement .adcAL := of_check rfl
theorem adcAAtHL : Statement .adcAAtHL := of_check rfl
theorem adcAA : Statement .adcAA := of_check rfl
theorem subB : Statement .subB := of_check rfl
theorem subC : Statement .subC := of_check rfl
theorem subD : Statement .subD := of_check rfl
theorem subE : Statement .subE := of_check rfl
theorem subH : Statement .subH := of_check rfl
theorem subL : Statement .subL := of_check rfl
theorem subAtHL : Statement .subAtHL := of_check rfl
theorem subA : Statement .subA := of_check rfl
theorem sbcAB : Statement .sbcAB := of_check rfl
theorem sbcAC : Statement .sbcAC := of_check rfl
theorem sbcAD : Statement .sbcAD := of_check rfl
theorem sbcAE : Statement .sbcAE := of_check rfl
theorem sbcAH : Statement .sbcAH := of_check rfl
theorem sbcAL : Statement .sbcAL := of_check rfl
theorem sbcAAtHL : Statement .sbcAAtHL := of_check rfl
theorem sbcAA : Statement .sbcAA := of_check rfl
theorem andB : Statement .andB := of_check rfl
theorem andC : Statement .andC := of_check rfl
theorem andD : Statement .andD := of_check rfl
theorem andE : Statement .andE := of_check rfl
theorem andH : Statement .andH := of_check rfl
theorem andL : Statement .andL := of_check rfl
theorem andAtHL : Statement .andAtHL := of_check rfl
theorem andA : Statement .andA := of_check rfl
theorem xorB : Statement .xorB := of_check rfl
theorem xorC : Statement .xorC := of_check rfl
theorem xorD : Statement .xorD := of_check rfl
theorem xorE : Statement .xorE := of_check rfl
theorem xorH : Statement .xorH := of_check rfl
theorem xorL : Statement .xorL := of_check rfl
theorem xorAtHL : Statement .xorAtHL := of_check rfl
theorem xorA : Statement .xorA := of_check rfl
theorem orB : Statement .orB := of_check rfl
theorem orC : Statement .orC := of_check rfl
theorem orD : Statement .orD := of_check rfl
theorem orE : Statement .orE := of_check rfl
theorem orH : Statement .orH := of_check rfl
theorem orL : Statement .orL := of_check rfl
theorem orAtHL : Statement .orAtHL := of_check rfl
theorem orA : Statement .orA := of_check rfl
theorem cpB : Statement .cpB := of_check rfl
theorem cpC : Statement .cpC := of_check rfl
theorem cpD : Statement .cpD := of_check rfl
theorem cpE : Statement .cpE := of_check rfl
theorem cpH : Statement .cpH := of_check rfl
theorem cpL : Statement .cpL := of_check rfl
theorem cpAtHL : Statement .cpAtHL := of_check rfl
theorem cpA : Statement .cpA := of_check rfl
theorem retNZ : Statement .retNZ := of_check rfl
theorem popBC : Statement .popBC := of_check rfl
theorem jpNZImm16 (nn : Word) : Statement (.jpNZImm16 nn) := of_check rfl
theorem jpImm16 (nn : Word) : Statement (.jpImm16 nn) := of_check rfl
theorem callNZImm16 (nn : Word) : Statement (.callNZImm16 nn) := of_check rfl
theorem pushBC : Statement .pushBC := of_check rfl
theorem addAImm (n : Byte) : Statement (.addAImm n) := of_check rfl
theorem rst00 : Statement .rst00 := of_check rfl
theorem retZ : Statement .retZ := of_check rfl
theorem ret : Statement .ret := of_check rfl
theorem jpZImm16 (nn : Word) : Statement (.jpZImm16 nn) := of_check rfl
theorem prefixCB (op2 : Byte) : Statement (.prefixCB op2) := of_check rfl
theorem callZImm16 (nn : Word) : Statement (.callZImm16 nn) := of_check rfl
theorem callImm16 (nn : Word) : Statement (.callImm16 nn) := of_check rfl
theorem adcAImm (n : Byte) : Statement (.adcAImm n) := of_check rfl
theorem rst08 : Statement .rst08 := of_check rfl
theorem retNC : Statement .retNC := of_check rfl
theorem popDE : Statement .popDE := of_check rfl
theorem jpNCImm16 (nn : Word) : Statement (.jpNCImm16 nn) := of_check rfl
theorem unusedD3 : Statement .unusedD3 := of_check rfl
theorem callNCImm16 (nn : Word) : Statement (.callNCImm16 nn) := of_check rfl
theorem pushDE : Statement .pushDE := of_check rfl
theorem subImm (n : Byte) : Statement (.subImm n) := of_check rfl
theorem rst10 : Statement .rst10 := of_check rfl
theorem retC : Statement .retC := of_check rfl
theorem reti : Statement .reti := of_check rfl
theorem jpCImm16 (nn : Word) : Statement (.jpCImm16 nn) := of_check rfl
theorem unusedDB : Statement .unusedDB := of_check rfl
theorem callCImm16 (nn : Word) : Statement (.callCImm16 nn) := of_check rfl
theorem unusedDD : Statement .unusedDD := of_check rfl
theorem sbcAImm (n : Byte) : Statement (.sbcAImm n) := of_check rfl
theorem rst18 : Statement .rst18 := of_check rfl
theorem ldhAtImmA (n : Byte) : Statement (.ldhAtImmA n) := of_check rfl
theorem popHL : Statement .popHL := of_check rfl
theorem ldAtCA : Statement .ldAtCA := of_check rfl
theorem unusedE3 : Statement .unusedE3 := of_check rfl
theorem unusedE4 : Statement .unusedE4 := of_check rfl
theorem pushHL : Statement .pushHL := of_check rfl
theorem andImm (n : Byte) : Statement (.andImm n) := of_check rfl
theorem rst20 : Statement .rst20 := of_check rfl
theorem addSPDisp : Statement .addSPDisp := of_check rfl
theorem jpAtHL : Statement .jpAtHL := of_check rfl
theorem ldAtImm16A (nn : Word) : Statement (.ldAtImm16A nn) := of_check rfl
theorem unusedEB : Statement .unusedEB := of_check rfl
theorem unusedEC : Statement .unusedEC := of_check rfl
theorem unusedED : Statement .unusedED := of_check rfl
theorem xorImm (n : Byte) : Statement (.xorImm n) := of_check rfl
theorem rst28 : Statement .rst28 := of_check rfl
theorem ldhAAtImm (n : Byte) : Statement (.ldhAAtImm n) := of_check rfl
theorem popAF : Statement .popAF := of_check rfl
theorem ldAAtC : Statement .ldAAtC := of_check rfl
theorem di : Statement .di := of_check rfl
theorem unusedF4 : Statement .unusedF4 := of_check rfl
theorem pushAF : Statement .pushAF := of_check rfl
theorem orImm (n : Byte) : Statement (.orImm n) := of_check rfl
theorem rst30 : Statement .rst30 := of_check rfl
theorem ldHLSPDisp (e : Byte) : Statement (.ldHLSPDisp e) := of_check rfl
theorem ldSPHL : Statement .ldSPHL := of_check rfl
theorem ldAAtImm16 (nn : Word) : Statement (.ldAAtImm16 nn) := of_check rfl
theorem ei : Statement .ei := of_check rfl
theorem unusedFC : Statement .unusedFC := of_check rfl
theorem unusedFD : Statement .unusedFD := of_check rfl
theorem cpImm (n : Byte) : Statement (.cpImm n) := of_check rfl
theorem rst38 : Statement .rst38 := of_check rfl
theorem rlcB : Statement .rlcB := of_check rfl
theorem rlcC : Statement .rlcC := of_check rfl
theorem rlcD : Statement .rlcD := of_check rfl
theorem rlcE : Statement .rlcE := of_check rfl
theorem rlcH : Statement .rlcH := of_check rfl
theorem rlcL : Statement .rlcL := of_check rfl
theorem rlcAtHL : Statement .rlcAtHL := of_check rfl
theorem rlcA : Statement .rlcA := of_check rfl
theorem rrcB : Statement .rrcB := of_check rfl
theorem rrcC : Statement .rrcC := of_check rfl
theorem rrcD : Statement .rrcD := of_check rfl
theorem rrcE : Statement .rrcE := of_check rfl
theorem rrcH : Statement .rrcH := of_check rfl
theorem rrcL : Statement .rrcL := of_check rfl
theorem rrcAtHL : Statement .rrcAtHL := of_check rfl
theorem rrcA : Statement .rrcA := of_check rfl
theorem rlB : Statement .rlB := of_check rfl
theorem rlC : Statement .rlC := of_check rfl
theorem rlD : Statement .rlD := of_check rfl
theorem rlE : Statement .rlE := of_check rfl
theorem rlH : Statement .rlH := of_check rfl
theorem rlL : Statement .rlL := of_check rfl
theorem rlAtHL : Statement .rlAtHL := of_check rfl
theorem rlA : Statement .rlA := of_check rfl
theorem rrB : Statement .rrB := of_check rfl
theorem rrC : Statement .rrC := of_check rfl
theorem rrD : Statement .rrD := of_check rfl
theorem rrE : Statement .rrE := of_check rfl
theorem rrH : Statement .rrH := of_check rfl
theorem rrL : Statement .rrL := of_check rfl
theorem rrAtHL : Statement .rrAtHL := of_check rfl
theorem rrA : Statement .rrA := of_check rfl
theorem slaB : Statement .slaB := of_check rfl
theorem slaC : Statement .slaC := of_check rfl
theorem slaD : Statement .slaD := of_check rfl
theorem slaE : Statement .slaE := of_check rfl
theorem slaH : Statement .slaH := of_check rfl
theorem slaL : Statement .slaL := of_check rfl
theorem slaAtHL : Statement .slaAtHL := of_check rfl
theorem slaA : Statement .slaA := of_check rfl
theorem sraB : Statement .sraB := of_check rfl
theorem sraC : Statement .sraC := of_check rfl
theorem sraD : Statement .sraD := of_check rfl
theorem sraE : Statement .sraE := of_check rfl
theorem sraH : Statement .sraH := of_check rfl
theorem sraL : Statement .sraL := of_check rfl
theorem sraAtHL : Statement .sraAtHL := of_check rfl
theorem sraA : Statement .sraA := of_check rfl
theorem swapB : Statement .swapB := of_check rfl
theorem swapC : Statement .swapC := of_check rfl
theorem swapD : Statement .swapD := of_check rfl
theorem swapE : Statement .swapE := of_check rfl
theorem swapH : Statement .swapH := of_check rfl
theorem swapL : Statement .swapL := of_check rfl
theorem swapAtHL : Statement .swapAtHL := of_check rfl
theorem swapA : Statement .swapA := of_check rfl
theorem srlB : Statement .srlB := of_check rfl
theorem srlC : Statement .srlC := of_check rfl
theorem srlD : Statement .srlD := of_check rfl
theorem srlE : Statement .srlE := of_check rfl
theorem srlH : Statement .srlH := of_check rfl
theorem srlL : Statement .srlL := of_check rfl
theorem srlAtHL : Statement .srlAtHL := of_check rfl
theorem srlA : Statement .srlA := of_check rfl
theorem bit0B : Statement .bit0B := of_check rfl
theorem bit0C : Statement .bit0C := of_check rfl
theorem bit0D : Statement .bit0D := of_check rfl
theorem bit0E : Statement .bit0E := of_check rfl
theorem bit0H : Statement .bit0H := of_check rfl
theorem bit0L : Statement .bit0L := of_check rfl
theorem bit0AtHL : Statement .bit0AtHL := of_check rfl
theorem bit0A : Statement .bit0A := of_check rfl
theorem bit1B : Statement .bit1B := of_check rfl
theorem bit1C : Statement .bit1C := of_check rfl
theorem bit1D : Statement .bit1D := of_check rfl
theorem bit1E : Statement .bit1E := of_check rfl
theorem bit1H : Statement .bit1H := of_check rfl
theorem bit1L : Statement .bit1L := of_check rfl
theorem bit1AtHL : Statement .bit1AtHL := of_check rfl
theorem bit1A : Statement .bit1A := of_check rfl
theorem bit2B : Statement .bit2B := of_check rfl
theorem bit2C : Statement .bit2C := of_check rfl
theorem bit2D : Statement .bit2D := of_check rfl
theorem bit2E : Statement .bit2E := of_check rfl
theorem bit2H : Statement .bit2H := of_check rfl
theorem bit2L : Statement .bit2L := of_check rfl
theorem bit2AtHL : Statement .bit2AtHL := of_check rfl
theorem bit2A : Statement .bit2A := of_check rfl
theorem bit3B : Statement .bit3B := of_check rfl
theorem bit3C : Statement .bit3C := of_check rfl
theorem bit3D : Statement .bit3D := of_check rfl
theorem bit3E : Statement .bit3E := of_check rfl
theorem bit3H : Statement .bit3H := of_check rfl
theorem bit3L : Statement .bit3L := of_check rfl
theorem bit3AtHL : Statement .bit3AtHL := of_check rfl
theorem bit3A : Statement .bit3A := of_check rfl
theorem bit4B : Statement .bit4B := of_check rfl
theorem bit4C : Statement .bit4C := of_check rfl
theorem bit4D : Statement .bit4D := of_check rfl
theorem bit4E : Statement .bit4E := of_check rfl
theorem bit4H : Statement .bit4H := of_check rfl
theorem bit4L : Statement .bit4L := of_check rfl
theorem bit4AtHL : Statement .bit4AtHL := of_check rfl
theorem bit4A : Statement .bit4A := of_check rfl
theorem bit5B : Statement .bit5B := of_check rfl
theorem bit5C : Statement .bit5C := of_check rfl
theorem bit5D : Statement .bit5D := of_check rfl
theorem bit5E : Statement .bit5E := of_check rfl
theorem bit5H : Statement .bit5H := of_check rfl
theorem bit5L : Statement .bit5L := of_check rfl
theorem bit5AtHL : Statement .bit5AtHL := of_check rfl
theorem bit5A : Statement .bit5A := of_check rfl
theorem bit6B : Statement .bit6B := of_check rfl
theorem bit6C : Statement .bit6C := of_check rfl
theorem bit6D : Statement .bit6D := of_check rfl
theorem bit6E : Statement .bit6E := of_check rfl
theorem bit6H : Statement .bit6H := of_check rfl
theorem bit6L : Statement .bit6L := of_check rfl
theorem bit6AtHL : Statement .bit6AtHL := of_check rfl
theorem bit6A : Statement .bit6A := of_check rfl
theorem bit7B : Statement .bit7B := of_check rfl
theorem bit7C : Statement .bit7C := of_check rfl
theorem bit7D : Statement .bit7D := of_check rfl
theorem bit7E : Statement .bit7E := of_check rfl
theorem bit7H : Statement .bit7H := of_check rfl
theorem bit7L : Statement .bit7L := of_check rfl
theorem bit7AtHL : Statement .bit7AtHL := of_check rfl
theorem bit7A : Statement .bit7A := of_check rfl
theorem res0B : Statement .res0B := of_check rfl
theorem res0C : Statement .res0C := of_check rfl
theorem res0D : Statement .res0D := of_check rfl
theorem res0E : Statement .res0E := of_check rfl
theorem res0H : Statement .res0H := of_check rfl
theorem res0L : Statement .res0L := of_check rfl
theorem res0AtHL : Statement .res0AtHL := of_check rfl
theorem res0A : Statement .res0A := of_check rfl
theorem res1B : Statement .res1B := of_check rfl
theorem res1C : Statement .res1C := of_check rfl
theorem res1D : Statement .res1D := of_check rfl
theorem res1E : Statement .res1E := of_check rfl
theorem res1H : Statement .res1H := of_check rfl
theorem res1L : Statement .res1L := of_check rfl
theorem res1AtHL : Statement .res1AtHL := of_check rfl
theorem res1A : Statement .res1A := of_check rfl
theorem res2B : Statement .res2B := of_check rfl
theorem res2C : Statement .res2C := of_check rfl
theorem res2D : Statement .res2D := of_check rfl
theorem res2E : Statement .res2E := of_check rfl
theorem res2H : Statement .res2H := of_check rfl
theorem res2L : Statement .res2L := of_check rfl
theorem res2AtHL : Statement .res2AtHL := of_check rfl
theorem res2A : Statement .res2A := of_check rfl
theorem res3B : Statement .res3B := of_check rfl
theorem res3C : Statement .res3C := of_check rfl
theorem res3D : Statement .res3D := of_check rfl
theorem res3E : Statement .res3E := of_check rfl
theorem res3H : Statement .res3H := of_check rfl
theorem res3L : Statement .res3L := of_check rfl
theorem res3AtHL : Statement .res3AtHL := of_check rfl
theorem res3A : Statement .res3A := of_check rfl
theorem res4B : Statement .res4B := of_check rfl
theorem res4C : Statement .res4C := of_check rfl
theorem res4D : Statement .res4D := of_check rfl
theorem res4E : Statement .res4E := of_check rfl
theorem res4H : Statement .res4H := of_check rfl
theorem res4L : Statement .res4L := of_check rfl
theorem res4AtHL : Statement .res4AtHL := of_check rfl
theorem res4A : Statement .res4A := of_check rfl
theorem res5B : Statement .res5B := of_check rfl
theorem res5C : Statement .res5C := of_check rfl
theorem res5D : Statement .res5D := of_check rfl
theorem res5E : Statement .res5E := of_check rfl
theorem res5H : Statement .res5H := of_check rfl
theorem res5L : Statement .res5L := of_check rfl
theorem res5AtHL : Statement .res5AtHL := of_check rfl
theorem res5A : Statement .res5A := of_check rfl
theorem res6B : Statement .res6B := of_check rfl
theorem res6C : Statement .res6C := of_check rfl
theorem res6D : Statement .res6D := of_check rfl
theorem res6E : Statement .res6E := of_check rfl
theorem res6H : Statement .res6H := of_check rfl
theorem res6L : Statement .res6L := of_check rfl
theorem res6AtHL : Statement .res6AtHL := of_check rfl
theorem res6A : Statement .res6A := of_check rfl
theorem res7B : Statement .res7B := of_check rfl
theorem res7C : Statement .res7C := of_check rfl
theorem res7D : Statement .res7D := of_check rfl
theorem res7E : Statement .res7E := of_check rfl
theorem res7H : Statement .res7H := of_check rfl
theorem res7L : Statement .res7L := of_check rfl
theorem res7AtHL : Statement .res7AtHL := of_check rfl
theorem res7A : Statement .res7A := of_check rfl
theorem set0B : Statement .set0B := of_check rfl
theorem set0C : Statement .set0C := of_check rfl
theorem set0D : Statement .set0D := of_check rfl
theorem set0E : Statement .set0E := of_check rfl
theorem set0H : Statement .set0H := of_check rfl
theorem set0L : Statement .set0L := of_check rfl
theorem set0AtHL : Statement .set0AtHL := of_check rfl
theorem set0A : Statement .set0A := of_check rfl
theorem set1B : Statement .set1B := of_check rfl
theorem set1C : Statement .set1C := of_check rfl
theorem set1D : Statement .set1D := of_check rfl
theorem set1E : Statement .set1E := of_check rfl
theorem set1H : Statement .set1H := of_check rfl
theorem set1L : Statement .set1L := of_check rfl
theorem set1AtHL : Statement .set1AtHL := of_check rfl
theorem set1A : Statement .set1A := of_check rfl
theorem set2B : Statement .set2B := of_check rfl
theorem set2C : Statement .set2C := of_check rfl
theorem set2D : Statement .set2D := of_check rfl
theorem set2E : Statement .set2E := of_check rfl
theorem set2H : Statement .set2H := of_check rfl
theorem set2L : Statement .set2L := of_check rfl
theorem set2AtHL : Statement .set2AtHL := of_check rfl
theorem set2A : Statement .set2A := of_check rfl
theorem set3B : Statement .set3B := of_check rfl
theorem set3C : Statement .set3C := of_check rfl
theorem set3D : Statement .set3D := of_check rfl
theorem set3E : Statement .set3E := of_check rfl
theorem set3H : Statement .set3H := of_check rfl
theorem set3L : Statement .set3L := of_check rfl
theorem set3AtHL : Statement .set3AtHL := of_check rfl
theorem set3A : Statement .set3A := of_check rfl
theorem set4B : Statement .set4B := of_check rfl
theorem set4C : Statement .set4C := of_check rfl
theorem set4D : Statement .set4D := of_check rfl
theorem set4E : Statement .set4E := of_check rfl
theorem set4H : Statement .set4H := of_check rfl
theorem set4L : Statement .set4L := of_check rfl
theorem set4AtHL : Statement .set4AtHL := of_check rfl
theorem set4A : Statement .set4A := of_check rfl
theorem set5B : Statement .set5B := of_check rfl
theorem set5C : Statement .set5C := of_check rfl
theorem set5D : Statement .set5D := of_check rfl
theorem set5E : Statement .set5E := of_check rfl
theorem set5H : Statement .set5H := of_check rfl
theorem set5L : Statement .set5L := of_check rfl
theorem set5AtHL : Statement .set5AtHL := of_check rfl
theorem set5A : Statement .set5A := of_check rfl
theorem set6B : Statement .set6B := of_check rfl
theorem set6C : Statement .set6C := of_check rfl
theorem set6D : Statement .set6D := of_check rfl
theorem set6E : Statement .set6E := of_check rfl
theorem set6H : Statement .set6H := of_check rfl
theorem set6L : Statement .set6L := of_check rfl
theorem set6AtHL : Statement .set6AtHL := of_check rfl
theorem set6A : Statement .set6A := of_check rfl
theorem set7B : Statement .set7B := of_check rfl
theorem set7C : Statement .set7C := of_check rfl
theorem set7D : Statement .set7D := of_check rfl
theorem set7E : Statement .set7E := of_check rfl
theorem set7H : Statement .set7H := of_check rfl
theorem set7L : Statement .set7L := of_check rfl
theorem set7AtHL : Statement .set7AtHL := of_check rfl
theorem set7A : Statement .set7A := of_check rfl

end Sys2Proof.Laws.EncodedLength
end

