-- ==== Sys2Proof/Laws/Record.lean ====
section
/-! SUPPORT. The Instruction record: `execAt` and `execIf` on each family as its cost and its shared body, and the record executed in
the state it was made in. -/

namespace Sys2Proof.Machine

open Host

variable (ea : Word) (s : State)

/-! ### `execAt` by family -/

theorem execAt_ldInstr_reg_atHL (dst : Reg8) : execAt (ldInstr (.reg dst) .atHL) ea s = instr 8 (loadR8 (.reg dst) (.mem ea)) s := by
  cases dst <;> rfl

theorem execAt_ldInstr_atHL_reg (r : Reg8) : execAt (ldInstr .atHL (.reg r)) ea s = instr 8 (loadR8 (.mem ea) (.reg r)) s := by
  cases r <;> rfl

theorem execAt_aluInstr_atHL (op : AluOp) : execAt (aluInstr op .atHL) ea s = instr 8 (aluR8 op (.mem ea)) s := by
  cases op <;> rfl

theorem execAt_rotInstr_atHL (op : RotOp) : execAt (rotInstr op .atHL) ea s = instr 16 (rotR8 op (.mem ea)) s := by
  cases op <;> rfl

theorem execAt_bitInstr_atHL (b : Idx3) : execAt (bitInstr b .atHL) ea s = instr 12 (bitR8 b (.mem ea)) s := by
  cases b <;> rfl

theorem execAt_resInstr_atHL (b : Idx3) : execAt (resInstr b .atHL) ea s = instr 16 (resR8 b (.mem ea)) s := by
  cases b <;> rfl

theorem execAt_setInstr_atHL (b : Idx3) : execAt (setInstr b .atHL) ea s = instr 16 (setBitR8 b (.mem ea)) s := by
  cases b <;> rfl

/-! ### `execIf` by family -/

theorem execIf_jrCcInstr (cc : Cond) (e : Byte) (b : Bool) :
    execIf (jrCcInstr cc e) b s = instrIf b 12 8 (jumpRel e) (skip 2) s := by
  cases cc <;> rfl

theorem execIf_retCcInstr (cc : Cond) (b : Bool) : execIf (retCcInstr cc) b s = instrIf b 20 8 returnBody (skip 1) s := by
  cases cc <;> rfl

theorem execIf_jpCcInstr (cc : Cond) (nn : Word) (b : Bool) :
    execIf (jpCcInstr cc nn) b s = instrIf b 16 12 (jumpTo nn) (skip 3) s := by
  cases cc <;> rfl

theorem execIf_callCcInstr (cc : Cond) (nn : Word) (b : Bool) :
    execIf (callCcInstr cc nn) b s = instrIf b 24 12 (callTo nn) (skip 3) s := by
  cases cc <;> rfl

/-! ### The record in the state it was made in -/

/-- A record executed where it was made is the instruction executed there. -/
theorem execRecord_record (i : Instr) : execRecord (record i s) s = exec i s := by
  cases i with
  | prefixCB op2 =>
    show execRecord ⟨.prefixCB op2, if op2.toNat % 8 = 6 then some s.hl else none, none⟩ s = _
    split <;> rfl
  | _ => rfl

end Sys2Proof.Machine
end

