-- ==== Sys2Proof/Tests/Slice0.lean ====
section
/-! SUPPORT. Tests: the well-formedness check, words decoded bit by bit, the worked vectors of 95_test_vectors.md (each cited by
its number there), and for every statement with hypotheses a witness that meets them. Expected values are the spec's. -/

namespace Sys2Proof.Tests

open Machine Host

/-! ### Well-formedness -/

/-- The escape byte's own row is refused: it is no instruction of its own (R126). -/
theorem test_ill_formed_escape_row : Instr.wellFormed (.prefixCB 0x00) = false := rfl

theorem test_ill_formed_escape_row_any : ∀ op2, Instr.wellFormed (.prefixCB op2) = false := fun _ => rfl

theorem test_well_formed_instruction : Instr.wellFormed (.ldBCImm16 0xFFFF) = true := rfl

/-! ### Decode, bit by bit from the encoding lines of the rules -/

/-- R200: `01 ddd sss` with d = 7 (A) and s = 6 would be (HL); here d = 7, s = 5 (L). -/
theorem test_decode_ld_a_l : decode [0b01111101] = .ok (.ldAL, []) := rfl

/-- R201: `01 ddd 110`, d = 3 (E). -/
theorem test_decode_ld_e_atHL : decode [0b01011110] = .ok (.ldEAtHL, []) := rfl

/-- R215: `00 10 1010`. -/
theorem test_decode_ld_a_hl_inc : decode [0b00101010] = .ok (.ldAAtHLInc, []) := rfl

/-- R243: `00 00 1000`, the address low byte first. -/
theorem test_decode_ld_nn_sp : decode [0b00001000, 0xCD, 0xAB, 0x00] = .ok (.ldAtImm16SP 0xABCD, [0x00]) := rfl

/-- R248: `11 qq 0001`, q = 2 (HL). -/
theorem test_decode_pop_hl : decode [0b11100001] = .ok (.popHL, []) := rfl

/-- R272 to R293: `10 ooo rrr`, o = 3 (SBC), r = 4 (H). -/
theorem test_decode_sbc_h : decode [0b10011100] = .ok (.sbcAH, []) := rfl

/-- R121: `11 ooo 110`, o = 7 (CP), and the immediate. -/
theorem test_decode_cp_n : decode [0b11111110, 0x80] = .ok (.cpImm 0x80, []) := rfl

/-- R312: `00 dd 1011`, d = 3 (SP). -/
theorem test_decode_dec_sp : decode [0b00111011] = .ok (.decSP, []) := rfl

/-- R125: escape x = 0, y = 5 (SRA), z = 6 ((HL)). -/
theorem test_decode_sra_atHL : decode [0b11001011, 0b00101110] = .ok (.sraAtHL, []) := rfl

/-- R350: escape x = 1, y = 3, z = 1 (C). -/
theorem test_decode_bit3_c : decode [0b11001011, 0b01011001] = .ok (.bit3C, []) := rfl

/-- R352: escape x = 2, y = 6, z = 0 (B). -/
theorem test_decode_res6_b : decode [0b11001011, 0b10110000] = .ok (.res6B, []) := rfl

/-- R375: `00 1cc 000`, c = 3 (C). -/
theorem test_decode_jr_c : decode [0b00111000, 0x80] = .ok (.jrCDisp 0x80, []) := rfl

/-- R379: `11 0cc 000`, c = 1 (Z). -/
theorem test_decode_ret_z : decode [0b11001000] = .ok (.retZ, []) := rfl

/-- R381: `11 ttt 111`, t = 7. -/
theorem test_decode_rst_38 : decode [0b11111111] = .ok (.rst38, []) := rfl

/-- R401. -/
theorem test_decode_di : decode [0b11110011] = .ok (.di, []) := rfl

/-- R128: STOP reads no byte after its first. -/
theorem test_decode_stop_alone : decode [0b00010000] = .ok (.stop, []) := rfl

/-! Every row of the two tables (opcode_table.json, in opcode order), with the bytes 0x24, 0x12 after the opcode. In the primary
table 0xCB 0x24 is the escape row SLA H. -/

/-- The sixteen primary rows from an opcode on, as decoded. -/
def primaryRows (first : Nat) : List Instr :=
  (List.range 16).filterMap fun k => ((decode [BitVec.ofNat 8 (first + k), 0x24, 0x12]).toOption).map Prod.fst

/-- The sixteen escape rows from a second byte on, as decoded. -/
def escapeRows (first : Nat) : List Instr :=
  (List.range 16).filterMap fun k => ((decode [0xCB, BitVec.ofNat 8 (first + k)]).toOption).map Prod.fst

theorem test_primary_rows_00 : primaryRows 0x00 =
    [.nop, .ldBCImm16 0x1224, .ldAtBCA, .incBC, .incB, .decB, .ldBImm 0x24, .rlca,
      .ldAtImm16SP 0x1224, .addHLBC, .ldAAtBC, .decBC, .incC, .decC, .ldCImm 0x24, .rrca] := rfl

theorem test_primary_rows_10 : primaryRows 0x10 =
    [.stop, .ldDEImm16 0x1224, .ldAtDEA, .incDE, .incD, .decD, .ldDImm 0x24, .rla,
      .jrDisp 0x24, .addHLDE, .ldAAtDE, .decDE, .incE, .decE, .ldEImm 0x24, .rra] := rfl

theorem test_primary_rows_20 : primaryRows 0x20 =
    [.jrNZDisp 0x24, .ldHLImm16 0x1224, .ldAtHLIncA, .incHL, .incH, .decH, .ldHImm 0x24, .daa,
      .jrZDisp 0x24, .addHLHL, .ldAAtHLInc, .decHL, .incL, .decL, .ldLImm 0x24, .cpl] := rfl

theorem test_primary_rows_30 : primaryRows 0x30 =
    [.jrNCDisp 0x24, .ldSPImm16 0x1224, .ldAtHLDecA, .incSP, .incAtHL, .decAtHL, .ldAtHLImm 0x24, .scf,
      .jrCDisp 0x24, .addHLSP, .ldAAtHLDec, .decSP, .incA, .decA, .ldAImm 0x24, .ccf] := rfl

theorem test_primary_rows_40 : primaryRows 0x40 =
    [.ldBB, .ldBC, .ldBD, .ldBE, .ldBH, .ldBL, .ldBAtHL, .ldBA,
      .ldCB, .ldCC, .ldCD, .ldCE, .ldCH, .ldCL, .ldCAtHL, .ldCA] := rfl

theorem test_primary_rows_50 : primaryRows 0x50 =
    [.ldDB, .ldDC, .ldDD, .ldDE, .ldDH, .ldDL, .ldDAtHL, .ldDA,
      .ldEB, .ldEC, .ldED, .ldEE, .ldEH, .ldEL, .ldEAtHL, .ldEA] := rfl

theorem test_primary_rows_60 : primaryRows 0x60 =
    [.ldHB, .ldHC, .ldHD, .ldHE, .ldHH, .ldHL, .ldHAtHL, .ldHA,
      .ldLB, .ldLC, .ldLD, .ldLE, .ldLH, .ldLL, .ldLAtHL, .ldLA] := rfl

theorem test_primary_rows_70 : primaryRows 0x70 =
    [.ldAtHLB, .ldAtHLC, .ldAtHLD, .ldAtHLE, .ldAtHLH, .ldAtHLL, .halt, .ldAtHLA,
      .ldAB, .ldAC, .ldAD, .ldAE, .ldAH, .ldAL, .ldAAtHL, .ldAA] := rfl

theorem test_primary_rows_80 : primaryRows 0x80 =
    [.addAB, .addAC, .addAD, .addAE, .addAH, .addAL, .addAAtHL, .addAA,
      .adcAB, .adcAC, .adcAD, .adcAE, .adcAH, .adcAL, .adcAAtHL, .adcAA] := rfl

theorem test_primary_rows_90 : primaryRows 0x90 =
    [.subB, .subC, .subD, .subE, .subH, .subL, .subAtHL, .subA,
      .sbcAB, .sbcAC, .sbcAD, .sbcAE, .sbcAH, .sbcAL, .sbcAAtHL, .sbcAA] := rfl

theorem test_primary_rows_A0 : primaryRows 0xA0 =
    [.andB, .andC, .andD, .andE, .andH, .andL, .andAtHL, .andA,
      .xorB, .xorC, .xorD, .xorE, .xorH, .xorL, .xorAtHL, .xorA] := rfl

theorem test_primary_rows_B0 : primaryRows 0xB0 =
    [.orB, .orC, .orD, .orE, .orH, .orL, .orAtHL, .orA,
      .cpB, .cpC, .cpD, .cpE, .cpH, .cpL, .cpAtHL, .cpA] := rfl

theorem test_primary_rows_C0 : primaryRows 0xC0 =
    [.retNZ, .popBC, .jpNZImm16 0x1224, .jpImm16 0x1224, .callNZImm16 0x1224, .pushBC, .addAImm 0x24, .rst00,
      .retZ, .ret, .jpZImm16 0x1224, .slaH, .callZImm16 0x1224, .callImm16 0x1224, .adcAImm 0x24, .rst08] := rfl

theorem test_primary_rows_D0 : primaryRows 0xD0 =
    [.retNC, .popDE, .jpNCImm16 0x1224, .unusedD3, .callNCImm16 0x1224, .pushDE, .subImm 0x24, .rst10,
      .retC, .reti, .jpCImm16 0x1224, .unusedDB, .callCImm16 0x1224, .unusedDD, .sbcAImm 0x24, .rst18] := rfl

theorem test_primary_rows_E0 : primaryRows 0xE0 =
    [.ldhAtImmA 0x24, .popHL, .ldAtCA, .unusedE3, .unusedE4, .pushHL, .andImm 0x24, .rst20,
      .addSPDisp, .jpAtHL, .ldAtImm16A 0x1224, .unusedEB, .unusedEC, .unusedED, .xorImm 0x24, .rst28] := rfl

theorem test_primary_rows_F0 : primaryRows 0xF0 =
    [.ldhAAtImm 0x24, .popAF, .ldAAtC, .di, .unusedF4, .pushAF, .orImm 0x24, .rst30,
      .ldHLSPDisp 0x24, .ldSPHL, .ldAAtImm16 0x1224, .ei, .unusedFC, .unusedFD, .cpImm 0x24, .rst38] := rfl

theorem test_escape_rows_00 : escapeRows 0x00 =
    [.rlcB, .rlcC, .rlcD, .rlcE, .rlcH, .rlcL, .rlcAtHL, .rlcA,
      .rrcB, .rrcC, .rrcD, .rrcE, .rrcH, .rrcL, .rrcAtHL, .rrcA] := rfl

theorem test_escape_rows_10 : escapeRows 0x10 =
    [.rlB, .rlC, .rlD, .rlE, .rlH, .rlL, .rlAtHL, .rlA,
      .rrB, .rrC, .rrD, .rrE, .rrH, .rrL, .rrAtHL, .rrA] := rfl

theorem test_escape_rows_20 : escapeRows 0x20 =
    [.slaB, .slaC, .slaD, .slaE, .slaH, .slaL, .slaAtHL, .slaA,
      .sraB, .sraC, .sraD, .sraE, .sraH, .sraL, .sraAtHL, .sraA] := rfl

theorem test_escape_rows_30 : escapeRows 0x30 =
    [.swapB, .swapC, .swapD, .swapE, .swapH, .swapL, .swapAtHL, .swapA,
      .srlB, .srlC, .srlD, .srlE, .srlH, .srlL, .srlAtHL, .srlA] := rfl

theorem test_escape_rows_40 : escapeRows 0x40 =
    [.bit0B, .bit0C, .bit0D, .bit0E, .bit0H, .bit0L, .bit0AtHL, .bit0A,
      .bit1B, .bit1C, .bit1D, .bit1E, .bit1H, .bit1L, .bit1AtHL, .bit1A] := rfl

theorem test_escape_rows_50 : escapeRows 0x50 =
    [.bit2B, .bit2C, .bit2D, .bit2E, .bit2H, .bit2L, .bit2AtHL, .bit2A,
      .bit3B, .bit3C, .bit3D, .bit3E, .bit3H, .bit3L, .bit3AtHL, .bit3A] := rfl

theorem test_escape_rows_60 : escapeRows 0x60 =
    [.bit4B, .bit4C, .bit4D, .bit4E, .bit4H, .bit4L, .bit4AtHL, .bit4A,
      .bit5B, .bit5C, .bit5D, .bit5E, .bit5H, .bit5L, .bit5AtHL, .bit5A] := rfl

theorem test_escape_rows_70 : escapeRows 0x70 =
    [.bit6B, .bit6C, .bit6D, .bit6E, .bit6H, .bit6L, .bit6AtHL, .bit6A,
      .bit7B, .bit7C, .bit7D, .bit7E, .bit7H, .bit7L, .bit7AtHL, .bit7A] := rfl

theorem test_escape_rows_80 : escapeRows 0x80 =
    [.res0B, .res0C, .res0D, .res0E, .res0H, .res0L, .res0AtHL, .res0A,
      .res1B, .res1C, .res1D, .res1E, .res1H, .res1L, .res1AtHL, .res1A] := rfl

theorem test_escape_rows_90 : escapeRows 0x90 =
    [.res2B, .res2C, .res2D, .res2E, .res2H, .res2L, .res2AtHL, .res2A,
      .res3B, .res3C, .res3D, .res3E, .res3H, .res3L, .res3AtHL, .res3A] := rfl

theorem test_escape_rows_A0 : escapeRows 0xA0 =
    [.res4B, .res4C, .res4D, .res4E, .res4H, .res4L, .res4AtHL, .res4A,
      .res5B, .res5C, .res5D, .res5E, .res5H, .res5L, .res5AtHL, .res5A] := rfl

theorem test_escape_rows_B0 : escapeRows 0xB0 =
    [.res6B, .res6C, .res6D, .res6E, .res6H, .res6L, .res6AtHL, .res6A,
      .res7B, .res7C, .res7D, .res7E, .res7H, .res7L, .res7AtHL, .res7A] := rfl

theorem test_escape_rows_C0 : escapeRows 0xC0 =
    [.set0B, .set0C, .set0D, .set0E, .set0H, .set0L, .set0AtHL, .set0A,
      .set1B, .set1C, .set1D, .set1E, .set1H, .set1L, .set1AtHL, .set1A] := rfl

theorem test_escape_rows_D0 : escapeRows 0xD0 =
    [.set2B, .set2C, .set2D, .set2E, .set2H, .set2L, .set2AtHL, .set2A,
      .set3B, .set3C, .set3D, .set3E, .set3H, .set3L, .set3AtHL, .set3A] := rfl

theorem test_escape_rows_E0 : escapeRows 0xE0 =
    [.set4B, .set4C, .set4D, .set4E, .set4H, .set4L, .set4AtHL, .set4A,
      .set5B, .set5C, .set5D, .set5E, .set5H, .set5L, .set5AtHL, .set5A] := rfl

theorem test_escape_rows_F0 : escapeRows 0xF0 =
    [.set6B, .set6C, .set6D, .set6E, .set6H, .set6L, .set6AtHL, .set6A,
      .set7B, .set7C, .set7D, .set7E, .set7H, .set7L, .set7AtHL, .set7A] := rfl

/-! ### The host's word interface -/

/-- A three-byte word in the table's numbering, and one of the escape rows. -/
theorem test_decodeTableWord : decodeTableWord 24 0xABCD01 = some (.ldBCImm16 0xABCD) ∧
    decodeTableWord 8 0x00 = some .nop := ⟨rfl, rfl⟩

theorem test_withFetchWord_runs : step (State.reset.withFetchWord 16 0x5A06) =
    .next { storeBytes 0x0000 [0x06, 0x5A] State.reset with b := 0x5A, pc := 0x0002, cycles := 8 } := rfl

/-! ### The worked vectors of 95_test_vectors.md -/

/-- V1 (rule R200): LD B,C. -/
theorem test_V1_ld_b_c :
    let s := (storeBytes 0x0100 [0x41] { State.reset with c := 0x5A, pc := 0x0100 })
    step s = .next { s with b := 0x5A, pc := 0x0101, cycles := 4 } := rfl

/-- V2 (rule R200): LD A,A (no change but cost). -/
theorem test_V2_ld_a_a_no_change_but_cost :
    let s := (storeBytes 0x0100 [0x7F] { State.reset with a := 0x12, pc := 0x0100 })
    step s = .next { s with pc := 0x0101, cycles := 4 } := rfl

/-- V3 (rule R201): LD E,(HL). -/
theorem test_V3_ld_e_hl :
    let s := (storeBytes 0x0100 [0x5E] (storeBytes 0xc010 [0x99] { State.reset with h := 0xC0, l := 0x10, pc := 0x0100 }))
    step s = .next { s with e := 0x99, pc := 0x0101, cycles := 8 } := rfl

/-- V4 (rule R202): LD (HL),H stores the pointer high byte. -/
theorem test_V4_ld_hl_h_stores_the_pointer_high_byte :
    let s := (storeBytes 0x0100 [0x74] { State.reset with h := 0xC1, l := 0x23, pc := 0x0100 })
    step s = .next { (storeBytes 0xc123 [0xc1] s) with pc := 0x0101, cycles := 8 } := rfl

/-- V5 (rule R203): LD D,n. -/
theorem test_V5_ld_d_n :
    let s := (storeBytes 0x0100 [0x16, 0x7E] { State.reset with pc := 0x0100 })
    step s = .next { s with d := 0x7E, pc := 0x0102, cycles := 8 } := rfl

/-- V6 (rule R204): LD (HL),n. -/
theorem test_V6_ld_hl_n :
    let s := (storeBytes 0x0100 [0x36, 0xAA] { State.reset with h := 0xD0, l := 0x00, pc := 0x0100 })
    step s = .next { (storeBytes 0xd000 [0xaa] s) with pc := 0x0102, cycles := 12 } := rfl

/-- V7 (rule R205): LD A,(BC). -/
theorem test_V7_ld_a_bc :
    let s := (storeBytes 0x0100 [0x0A] (storeBytes 0xc005 [0x42] { State.reset with b := 0xC0, c := 0x05, pc := 0x0100 }))
    step s = .next { s with a := 0x42, pc := 0x0101, cycles := 8 } := rfl

/-- V8 (rule R206): LD A,(DE) through echo. -/
theorem test_V8_ld_a_de_through_echo :
    let s := (storeBytes 0x0100 [0x1A] (storeBytes 0xc005 [0x42] { State.reset with d := 0xE0, e := 0x05, pc := 0x0100 }))
    step s = .next { s with a := 0x42, pc := 0x0101, cycles := 8 } := rfl

/-- V10 (rule R207): LD (BC),A. -/
theorem test_V10_ld_bc_a :
    let s := (storeBytes 0x0100 [0x02] { State.reset with a := 0x33, b := 0xC0, c := 0x00, pc := 0x0100 })
    step s = .next { (storeBytes 0xc000 [0x33] s) with pc := 0x0101, cycles := 8 } := rfl

/-- V11 (rule R208): LD (DE),A into echo writes work RAM. -/
theorem test_V11_ld_de_a_into_echo_writes_work_ram :
    let s := (storeBytes 0x0100 [0x12] { State.reset with a := 0x77, d := 0xFD, e := 0xFF, pc := 0x0100 })
    step s = .next { (storeBytes 0xddff [0x77] s) with pc := 0x0101, cycles := 8 } := rfl

/-- V12 (rule R209): LD A,(nn). -/
theorem test_V12_ld_a_nn :
    let s := (storeBytes 0x0100 [0xFA, 0x34, 0xC2] (storeBytes 0xc234 [0x5c] { State.reset with pc := 0x0100 }))
    step s = .next { s with a := 0x5C, pc := 0x0103, cycles := 16 } := rfl

/-- V13 (rule R210): LD (nn),A to IE keeps one bit. -/
theorem test_V13_ld_nn_a_to_ie_keeps_one_bit :
    let s := (storeBytes 0x0100 [0xEA, 0xFF, 0xFF] { State.reset with a := 0x05, pc := 0x0100 })
    step s = .next { s with pc := 0x0103, cycles := 16, ie := true } := rfl

/-- V17 (rule R211): LDH A,(n). -/
theorem test_V17_ldh_a_n :
    let s := (storeBytes 0x0100 [0xF0, 0x80] (storeBytes 0xff80 [0x3c] { State.reset with pc := 0x0100 }))
    step s = .next { s with a := 0x3C, pc := 0x0102, cycles := 12 } := rfl

/-- V19 (rule R212): LDH (n),A. -/
theorem test_V19_ldh_n_a :
    let s := (storeBytes 0x0100 [0xE0, 0x44] { State.reset with a := 0x91, pc := 0x0100 })
    step s = .next { (storeBytes 0xff44 [0x91] s) with pc := 0x0102, cycles := 12 } := rfl

/-- V20 (rule R213): LD A,(C). -/
theorem test_V20_ld_a_c :
    let s := (storeBytes 0x0100 [0xF2] (storeBytes 0xff90 [0x18] { State.reset with c := 0x90, pc := 0x0100 }))
    step s = .next { s with a := 0x18, pc := 0x0101, cycles := 8 } := rfl

/-- V21 (rule R214): LD (C),A. -/
theorem test_V21_ld_c_a :
    let s := (storeBytes 0x0100 [0xE2] { State.reset with a := 0x80, c := 0x7F, pc := 0x0100 })
    step s = .next { (storeBytes 0xff7f [0x80] s) with pc := 0x0101, cycles := 8 } := rfl

/-- V22 (rule R215): LD A,(HL+). -/
theorem test_V22_ld_a_hl :
    let s := (storeBytes 0x0100 [0x2A] (storeBytes 0xc0ff [0x11] { State.reset with h := 0xC0, l := 0xFF, pc := 0x0100 }))
    step s = .next { s with a := 0x11, h := 0xC1, l := 0x00, pc := 0x0101, cycles := 8 } := rfl

/-- V24 (rule R216): LD A,(HL-). -/
theorem test_V24_ld_a_hl :
    let s := (storeBytes 0x0100 [0x3A] (storeBytes 0xc100 [0x22] { State.reset with h := 0xC1, l := 0x00, pc := 0x0100 }))
    step s = .next { s with a := 0x22, h := 0xC0, l := 0xFF, pc := 0x0101, cycles := 8 } := rfl

/-- V25 (rule R217): LD (HL+),A. -/
theorem test_V25_ld_hl_a :
    let s := (storeBytes 0x0100 [0x22] { State.reset with a := 0x5A, h := 0xC0, l := 0x00, pc := 0x0100 })
    step s = .next { (storeBytes 0xc000 [0x5a] s) with l := 0x01, pc := 0x0101, cycles := 8 } := rfl

/-- V26 (rule R218): LD (HL-),A wraps HL. -/
theorem test_V26_ld_hl_a_wraps_hl :
    let s := (storeBytes 0xC000 [0x32] { State.reset with a := 0x5A, h := 0x00, l := 0x00, pc := 0xC000 })
    step s = .next { (storeBytes 0x0 [0x5a] s) with h := 0xFF, l := 0xFF, pc := 0xC001, cycles := 8 } := rfl

/-- V27 (rule R242): LD BC,nn. -/
theorem test_V27_ld_bc_nn :
    let s := (storeBytes 0x0100 [0x01, 0x34, 0x12] { State.reset with pc := 0x0100 })
    step s = .next { s with b := 0x12, c := 0x34, pc := 0x0103, cycles := 12 } := rfl

/-- V28 (rule R242): LD SP,nn. -/
theorem test_V28_ld_sp_nn :
    let s := (storeBytes 0x0100 [0x31, 0xFE, 0xFF] { State.reset with pc := 0x0100 })
    step s = .next { s with sp := 0xFFFE, pc := 0x0103, cycles := 12 } := rfl

/-- V29 (rule R243): LD (nn),SP. -/
theorem test_V29_ld_nn_sp :
    let s := (storeBytes 0x0100 [0x08, 0x00, 0xC0] { State.reset with sp := 0xABCD, pc := 0x0100 })
    step s = .next { (storeBytes 0xc001 [0xab] (storeBytes 0xc000 [0xcd] s)) with pc := 0x0103, cycles := 20 } := rfl

/-- V31 (rule R244): LD SP,HL. -/
theorem test_V31_ld_sp_hl :
    let s := (storeBytes 0x0100 [0xF9] { State.reset with h := 0xDF, l := 0xF0, pc := 0x0100 })
    step s = .next { s with sp := 0xDFF0, pc := 0x0101, cycles := 8 } := rfl

/-- V32 (rule R245): LD HL,SP+2. -/
theorem test_V32_ld_hl_sp_2 :
    let s := (storeBytes 0x0100 [0xF8, 0x02] { State.reset with sp := 0xFFF8, pc := 0x0100 })
    step s = .next { s with h := 0xFF, l := 0xFA, pc := 0x0102, cycles := 12 } := rfl

/-- V36 (rule R246): PUSH BC. -/
theorem test_V36_push_bc :
    let s := (storeBytes 0x0100 [0xC5] { State.reset with b := 0x12, c := 0x34, sp := 0xD000, pc := 0x0100 })
    step s = .next { (storeBytes 0xcfff [0x12] (storeBytes 0xcffe [0x34] s)) with sp := 0xCFFE, pc := 0x0101, cycles := 16 } := rfl

/-- V37 (rule R246): PUSH DE at SP=0 into IE. -/
theorem test_V37_push_de_at_sp_0_into_ie :
    let s := (storeBytes 0x0100 [0xD5] { State.reset with d := 0x12, e := 0x34, pc := 0x0100 })
    step s = .next { (storeBytes 0xfffe [0x34] s) with sp := 0xFFFE, pc := 0x0101, cycles := 16, ie := true } := rfl

/-- V38 (rule R247): PUSH AF. -/
theorem test_V38_push_af :
    let s := (storeBytes 0x0100 [0xF5] { State.reset with a := 0x22, flagZ := true, flagN := false, flagH := true, flagC := true, sp := 0xD000, pc := 0x0100 })
    step s = .next { (storeBytes 0xcfff [0x22] (storeBytes 0xcffe [0xb0] s)) with sp := 0xCFFE, pc := 0x0101, cycles := 16 } := rfl

/-- V39 (rule R248): POP HL. -/
theorem test_V39_pop_hl :
    let s := (storeBytes 0x0100 [0xE1] (storeBytes 0xcfff [0x56] (storeBytes 0xcffe [0x78] { State.reset with sp := 0xCFFE, pc := 0x0100 })))
    step s = .next { s with h := 0x56, l := 0x78, sp := 0xD000, pc := 0x0101, cycles := 12 } := rfl

/-- V40 (rule R248): POP DE wraps SP. -/
theorem test_V40_pop_de_wraps_sp :
    let s := (storeBytes 0x0100 [0xD1] (storeBytes 0xfffe [0x34] { State.reset with sp := 0xFFFE, pc := 0x0100 }))
    step s = .next { s with e := 0x34, sp := 0x0000, pc := 0x0101, cycles := 12 } := rfl

/-- V41 (rule R249): POP AF masks low nibble. -/
theorem test_V41_pop_af_masks_low_nibble :
    let s := (storeBytes 0x0100 [0xF1] (storeBytes 0xcfff [0x12] (storeBytes 0xcffe [0xff] { State.reset with sp := 0xCFFE, pc := 0x0100 })))
    step s = .next { s with a := 0x12, flagZ := true, flagN := true, flagH := true, flagC := true, sp := 0xD000, pc := 0x0101, cycles := 12 } := rfl

/-- V43 (rule R270): ADD A,B (source §8). -/
theorem test_V43_add_a_b_source_8 :
    let s := (storeBytes 0x0100 [0x80] { State.reset with a := 0x3E, b := 0x23, pc := 0x0100 })
    step s = .next { s with a := 0x61, flagZ := false, flagN := false, flagH := true, flagC := false, pc := 0x0101, cycles := 4 } := rfl

/-- V45 (rule R270): ADD A,A 0x88. -/
theorem test_V45_add_a_a_0x88 :
    let s := (storeBytes 0x0100 [0x87] { State.reset with a := 0x88, pc := 0x0100 })
    step s = .next { s with a := 0x10, flagZ := false, flagN := false, flagH := true, flagC := true, pc := 0x0101, cycles := 4 } := rfl

/-- V46 (rule R271): ADD A,(HL). -/
theorem test_V46_add_a_hl :
    let s := (storeBytes 0x0100 [0x86] (storeBytes 0xc000 [0x1] { State.reset with a := 0x0F, h := 0xC0, l := 0x00, pc := 0x0100 }))
    step s = .next { s with a := 0x10, flagZ := false, flagN := false, flagH := true, flagC := false, pc := 0x0101, cycles := 8 } := rfl

/-- V47 (rule R272): ADD A,n 0xFF+0x01. -/
theorem test_V47_add_a_n_0xff_0x01 :
    let s := (storeBytes 0x0100 [0xC6, 0x01] { State.reset with a := 0xFF, pc := 0x0100 })
    step s = .next { s with a := 0x00, flagZ := true, flagN := false, flagH := true, flagC := true, pc := 0x0102, cycles := 8 } := rfl

/-- V48 (rule R273): ADC A,C with C=1. -/
theorem test_V48_adc_a_c_with_c_1 :
    let s := (storeBytes 0x0100 [0x89] { State.reset with a := 0x0E, c := 0x01, flagZ := false, flagN := false, flagH := false, flagC := true, pc := 0x0100 })
    step s = .next { s with a := 0x10, flagZ := false, flagN := false, flagH := true, flagC := false, pc := 0x0101, cycles := 4 } := rfl

/-- V49 (rule R275): ADC A,n 0xFF+0x00+1. -/
theorem test_V49_adc_a_n_0xff_0x00_1 :
    let s := (storeBytes 0x0100 [0xCE, 0x00] { State.reset with a := 0xFF, flagZ := false, flagN := false, flagH := false, flagC := true, pc := 0x0100 })
    step s = .next { s with a := 0x00, flagZ := true, flagN := false, flagH := true, flagC := true, pc := 0x0102, cycles := 8 } := rfl

/-- V51 (rule R276): SUB B equal. -/
theorem test_V51_sub_b_equal :
    let s := (storeBytes 0x0100 [0x90] { State.reset with a := 0x3E, b := 0x3E, pc := 0x0100 })
    step s = .next { s with a := 0x00, flagZ := true, flagN := true, flagH := false, flagC := false, pc := 0x0101, cycles := 4 } := rfl

/-- V53 (rule R278): SUB n half-borrow. -/
theorem test_V53_sub_n_half_borrow :
    let s := (storeBytes 0x0100 [0xD6, 0x01] { State.reset with a := 0x10, pc := 0x0100 })
    step s = .next { s with a := 0x0F, flagZ := false, flagN := true, flagH := true, flagC := false, pc := 0x0102, cycles := 8 } := rfl

/-- V54 (rule R279): SBC A,B with C=1. -/
theorem test_V54_sbc_a_b_with_c_1 :
    let s := (storeBytes 0x0100 [0x98] { State.reset with a := 0x10, b := 0x0F, flagZ := false, flagN := false, flagH := false, flagC := true, pc := 0x0100 })
    step s = .next { s with a := 0x00, flagZ := true, flagN := true, flagH := true, flagC := false, pc := 0x0101, cycles := 4 } := rfl

/-- V55 (rule R281): SBC A,n 0x00-0x00-1. -/
theorem test_V55_sbc_a_n_0x00_0x00_1 :
    let s := (storeBytes 0x0100 [0xDE, 0x00] { State.reset with a := 0x00, flagZ := false, flagN := false, flagH := false, flagC := true, pc := 0x0100 })
    step s = .next { s with a := 0xFF, flagZ := false, flagN := true, flagH := true, flagC := true, pc := 0x0102, cycles := 8 } := rfl

/-- V56 (rule R282): AND B. -/
theorem test_V56_and_b :
    let s := (storeBytes 0x0100 [0xA0] { State.reset with a := 0xF0, b := 0x0F, flagZ := false, flagN := true, flagH := false, flagC := true, pc := 0x0100 })
    step s = .next { s with a := 0x00, flagZ := true, flagN := false, flagH := true, flagC := false, pc := 0x0101, cycles := 4 } := rfl

/-- V57 (rule R284): AND n. -/
theorem test_V57_and_n :
    let s := (storeBytes 0x0100 [0xE6, 0x3C] { State.reset with a := 0xFF, pc := 0x0100 })
    step s = .next { s with a := 0x3C, flagZ := false, flagN := false, flagH := true, flagC := false, pc := 0x0102, cycles := 8 } := rfl

/-- V58 (rule R285): XOR A clears A. -/
theorem test_V58_xor_a_clears_a :
    let s := (storeBytes 0x0100 [0xAF] { State.reset with a := 0x5A, flagZ := false, flagN := true, flagH := true, flagC := true, pc := 0x0100 })
    step s = .next { s with a := 0x00, flagZ := true, flagN := false, flagH := false, flagC := false, pc := 0x0101, cycles := 4 } := rfl

/-- V59 (rule R287): XOR n. -/
theorem test_V59_xor_n :
    let s := (storeBytes 0x0100 [0xEE, 0xFF] { State.reset with a := 0x0F, pc := 0x0100 })
    step s = .next { s with a := 0xF0, pc := 0x0102, cycles := 8 } := rfl

/-- V60 (rule R288): OR C. -/
theorem test_V60_or_c :
    let s := (storeBytes 0x0100 [0xB1] { State.reset with a := 0x00, c := 0x00, flagZ := false, flagN := true, flagH := true, flagC := true, pc := 0x0100 })
    step s = .next { s with flagZ := true, flagN := false, flagH := false, flagC := false, pc := 0x0101, cycles := 4 } := rfl

/-- V61 (rule R290): OR n. -/
theorem test_V61_or_n :
    let s := (storeBytes 0x0100 [0xF6, 0x80] { State.reset with a := 0x01, pc := 0x0100 })
    step s = .next { s with a := 0x81, pc := 0x0102, cycles := 8 } := rfl

/-- V62 (rule R291): CP B equal keeps A. -/
theorem test_V62_cp_b_equal_keeps_a :
    let s := (storeBytes 0x0100 [0xB8] { State.reset with a := 0x42, b := 0x42, pc := 0x0100 })
    step s = .next { s with flagZ := true, flagN := true, flagH := false, flagC := false, pc := 0x0101, cycles := 4 } := rfl

/-- V63 (rule R292): CP (HL) greater. -/
theorem test_V63_cp_hl_greater :
    let s := (storeBytes 0x0100 [0xBE] (storeBytes 0xc000 [0x11] { State.reset with a := 0x10, h := 0xC0, l := 0x00, pc := 0x0100 }))
    step s = .next { s with flagZ := false, flagN := true, flagH := true, flagC := true, pc := 0x0101, cycles := 8 } := rfl

/-- V64 (rule R293): CP n smaller. -/
theorem test_V64_cp_n_smaller :
    let s := (storeBytes 0x0100 [0xFE, 0x01] { State.reset with a := 0x90, pc := 0x0100 })
    step s = .next { s with flagZ := false, flagN := true, flagH := true, flagC := false, pc := 0x0102, cycles := 8 } := rfl

/-- V65 (rule R294): INC A 0xFF keeps C. -/
theorem test_V65_inc_a_0xff_keeps_c :
    let s := (storeBytes 0x0100 [0x3C] { State.reset with a := 0xFF, flagZ := false, flagN := false, flagH := false, flagC := true, pc := 0x0100 })
    step s = .next { s with a := 0x00, flagZ := true, flagN := false, flagH := true, flagC := true, pc := 0x0101, cycles := 4 } := rfl

/-- V66 (rule R294): INC B 0x0F. -/
theorem test_V66_inc_b_0x0f :
    let s := (storeBytes 0x0100 [0x04] { State.reset with b := 0x0F, pc := 0x0100 })
    step s = .next { s with flagZ := false, flagN := false, flagH := true, flagC := false, b := 0x10, pc := 0x0101, cycles := 4 } := rfl

/-- V67 (rule R295): INC (HL). -/
theorem test_V67_inc_hl :
    let s := (storeBytes 0x0100 [0x34] (storeBytes 0xc000 [0x7f] { State.reset with h := 0xC0, l := 0x00, pc := 0x0100 }))
    step s = .next { (storeBytes 0xc000 [0x80] s) with flagZ := false, flagN := false, flagH := true, flagC := false, pc := 0x0101, cycles := 12 } := rfl

/-- V68 (rule R296): DEC A 0x00 (source §8). -/
theorem test_V68_dec_a_0x00_source_8 :
    let s := (storeBytes 0x0100 [0x3D] { State.reset with a := 0x00, pc := 0x0100 })
    step s = .next { s with a := 0xFF, flagZ := false, flagN := true, flagH := true, flagC := false, pc := 0x0101, cycles := 4 } := rfl

/-- V69 (rule R296): DEC C 0x01 to zero. -/
theorem test_V69_dec_c_0x01_to_zero :
    let s := (storeBytes 0x0100 [0x0D] { State.reset with c := 0x01, flagZ := false, flagN := false, flagH := false, flagC := true, pc := 0x0100 })
    step s = .next { s with flagZ := true, flagN := true, flagH := false, flagC := true, c := 0x00, pc := 0x0101, cycles := 4 } := rfl

/-- V70 (rule R296): DEC E 0x10. -/
theorem test_V70_dec_e_0x10 :
    let s := (storeBytes 0x0100 [0x1D] { State.reset with e := 0x10, pc := 0x0100 })
    step s = .next { s with flagZ := false, flagN := true, flagH := true, flagC := false, e := 0x0F, pc := 0x0101, cycles := 4 } := rfl

/-- V71 (rule R297): DEC (HL). -/
theorem test_V71_dec_hl :
    let s := (storeBytes 0x0100 [0x35] (storeBytes 0xc000 [0x0] { State.reset with h := 0xC0, l := 0x00, pc := 0x0100 }))
    step s = .next { (storeBytes 0xc000 [0xff] s) with flagZ := false, flagN := true, flagH := true, flagC := false, pc := 0x0101, cycles := 12 } := rfl

/-- V72 (rule R298): DAA after 0x45+0x38. -/
theorem test_V72_daa_after_0x45_0x38 :
    let s := (storeBytes 0x0100 [0x27] { State.reset with a := 0x7D, flagZ := false, flagN := false, flagH := false, flagC := false, pc := 0x0100 })
    step s = .next { s with a := 0x83, pc := 0x0101, cycles := 4 } := rfl

/-- V78 (rule R299): CPL. -/
theorem test_V78_cpl :
    let s := (storeBytes 0x0100 [0x2F] { State.reset with a := 0x35, flagZ := true, flagN := false, flagH := false, flagC := true, pc := 0x0100 })
    step s = .next { s with a := 0xCA, flagZ := true, flagN := true, flagH := true, flagC := true, pc := 0x0101, cycles := 4 } := rfl

/-- V79 (rule R300): SCF. -/
theorem test_V79_scf :
    let s := (storeBytes 0x0100 [0x37] { State.reset with flagZ := true, flagN := true, flagH := true, flagC := false, pc := 0x0100 })
    step s = .next { s with flagZ := true, flagN := false, flagH := false, flagC := true, pc := 0x0101, cycles := 4 } := rfl

/-- V80 (rule R301): CCF C=1. -/
theorem test_V80_ccf_c_1 :
    let s := (storeBytes 0x0100 [0x3F] { State.reset with flagZ := true, flagN := true, flagH := true, flagC := true, pc := 0x0100 })
    step s = .next { s with flagZ := true, flagN := false, flagH := false, flagC := false, pc := 0x0101, cycles := 4 } := rfl

/-- V82 (rule R310): ADD HL,BC 0x8A23+0x0605. -/
theorem test_V82_add_hl_bc_0x8a23_0x0605 :
    let s := (storeBytes 0x0100 [0x09] { State.reset with h := 0x8A, l := 0x23, b := 0x06, c := 0x05, pc := 0x0100 })
    step s = .next { s with flagZ := false, flagN := false, flagH := true, flagC := false, h := 0x90, l := 0x28, pc := 0x0101, cycles := 8 } := rfl

/-- V83 (rule R310): ADD HL,HL 0x8A23. -/
theorem test_V83_add_hl_hl_0x8a23 :
    let s := (storeBytes 0x0100 [0x29] { State.reset with h := 0x8A, l := 0x23, pc := 0x0100 })
    step s = .next { s with flagZ := false, flagN := false, flagH := true, flagC := true, h := 0x14, l := 0x46, pc := 0x0101, cycles := 8 } := rfl

/-- V84 (rule R310): ADD HL,DE 0x0FFF+1, Z kept. -/
theorem test_V84_add_hl_de_0x0fff_1_z_kept :
    let s := (storeBytes 0x0100 [0x19] { State.reset with h := 0x0F, l := 0xFF, d := 0x00, e := 0x01, flagZ := true, flagN := false, flagH := false, flagC := false, pc := 0x0100 })
    step s = .next { s with flagZ := true, flagN := false, flagH := true, flagC := false, h := 0x10, l := 0x00, pc := 0x0101, cycles := 8 } := rfl

/-- V85 (rule R310): ADD HL,SP 0xFFFF+1. -/
theorem test_V85_add_hl_sp_0xffff_1 :
    let s := (storeBytes 0x0100 [0x39] { State.reset with h := 0xFF, l := 0xFF, sp := 0x0001, pc := 0x0100 })
    step s = .next { s with flagZ := false, flagN := false, flagH := true, flagC := true, h := 0x00, l := 0x00, pc := 0x0101, cycles := 8 } := rfl

/-- V87 (rule R311): INC SP wraps. -/
theorem test_V87_inc_sp_wraps :
    let s := (storeBytes 0x0100 [0x33] { State.reset with sp := 0xFFFF, flagZ := true, flagN := true, flagH := true, flagC := true, pc := 0x0100 })
    step s = .next { s with sp := 0x0000, pc := 0x0101, cycles := 8 } := rfl

/-- V88 (rule R311): INC DE carry into D. -/
theorem test_V88_inc_de_carry_into_d :
    let s := (storeBytes 0x0100 [0x13] { State.reset with d := 0x00, e := 0xFF, pc := 0x0100 })
    step s = .next { s with d := 0x01, e := 0x00, pc := 0x0101, cycles := 8 } := rfl

/-- V89 (rule R312): DEC BC wraps. -/
theorem test_V89_dec_bc_wraps :
    let s := (storeBytes 0x0100 [0x0B] { State.reset with pc := 0x0100 })
    step s = .next { s with b := 0xFF, c := 0xFF, pc := 0x0101, cycles := 8 } := rfl

/-- V90 (rule R313): ADD SP,e faults. -/
theorem test_V90_add_sp_e_faults :
    let s := (storeBytes 0x0100 [0xE8, 0x05] { State.reset with sp := 0xD000, pc := 0x0100 })
    step s = .next { s with run := .faulted (.unimplemented 0xE8 0x0100) } := rfl

/-- V91 (rule R330): RLCA 0x85. -/
theorem test_V91_rlca_0x85 :
    let s := (storeBytes 0x0100 [0x07] { State.reset with a := 0x85, pc := 0x0100 })
    step s = .next { s with a := 0x0B, flagZ := false, flagN := false, flagH := false, flagC := true, pc := 0x0101, cycles := 4 } := rfl

/-- V93 (rule R331): RRCA 0x01. -/
theorem test_V93_rrca_0x01 :
    let s := (storeBytes 0x0100 [0x0F] { State.reset with a := 0x01, pc := 0x0100 })
    step s = .next { s with a := 0x80, flagZ := false, flagN := false, flagH := false, flagC := true, pc := 0x0101, cycles := 4 } := rfl

/-- V94 (rule R332): RLA with C=1. -/
theorem test_V94_rla_with_c_1 :
    let s := (storeBytes 0x0100 [0x17] { State.reset with a := 0x80, flagZ := false, flagN := false, flagH := false, flagC := true, pc := 0x0100 })
    step s = .next { s with a := 0x01, pc := 0x0101, cycles := 4 } := rfl

/-- V95 (rule R333): RRA with C=0. -/
theorem test_V95_rra_with_c_0 :
    let s := (storeBytes 0x0100 [0x1F] { State.reset with a := 0x01, pc := 0x0100 })
    step s = .next { s with a := 0x00, flagZ := false, flagN := false, flagH := false, flagC := true, pc := 0x0101, cycles := 4 } := rfl

/-- V96 (rule R334): RLC B 0x85. -/
theorem test_V96_rlc_b_0x85 :
    let s := (storeBytes 0x0100 [0xCB, 0x00] { State.reset with b := 0x85, pc := 0x0100 })
    step s = .next { s with flagZ := false, flagN := false, flagH := false, flagC := true, b := 0x0B, pc := 0x0102, cycles := 8 } := rfl

/-- V97 (rule R334): RLC C 0x00 sets Z. -/
theorem test_V97_rlc_c_0x00_sets_z :
    let s := (storeBytes 0x0100 [0xCB, 0x01] { State.reset with c := 0x00, pc := 0x0100 })
    step s = .next { s with flagZ := true, flagN := false, flagH := false, flagC := false, pc := 0x0102, cycles := 8 } := rfl

/-- V98 (rule R335): RLC (HL). -/
theorem test_V98_rlc_hl :
    let s := (storeBytes 0x0100 [0xCB, 0x06] (storeBytes 0xc000 [0x80] { State.reset with h := 0xC0, l := 0x00, pc := 0x0100 }))
    step s = .next { (storeBytes 0xc000 [0x1] s) with flagZ := false, flagN := false, flagH := false, flagC := true, pc := 0x0102, cycles := 16 } := rfl

/-- V99 (rule R336): RRC A 0x01. -/
theorem test_V99_rrc_a_0x01 :
    let s := (storeBytes 0x0100 [0xCB, 0x0F] { State.reset with a := 0x01, pc := 0x0100 })
    step s = .next { s with a := 0x80, flagZ := false, flagN := false, flagH := false, flagC := true, pc := 0x0102, cycles := 8 } := rfl

/-- V100 (rule R338): RL D with C=1. -/
theorem test_V100_rl_d_with_c_1 :
    let s := (storeBytes 0x0100 [0xCB, 0x12] { State.reset with d := 0x80, flagZ := false, flagN := false, flagH := false, flagC := true, pc := 0x0100 })
    step s = .next { s with d := 0x01, pc := 0x0102, cycles := 8 } := rfl

/-- V101 (rule R338): RL E 0x80 C=0 gives zero. -/
theorem test_V101_rl_e_0x80_c_0_gives_zero :
    let s := (storeBytes 0x0100 [0xCB, 0x13] { State.reset with e := 0x80, pc := 0x0100 })
    step s = .next { s with flagZ := true, flagN := false, flagH := false, flagC := true, e := 0x00, pc := 0x0102, cycles := 8 } := rfl

/-- V102 (rule R340): RR H with C=1. -/
theorem test_V102_rr_h_with_c_1 :
    let s := (storeBytes 0x0100 [0xCB, 0x1C] { State.reset with h := 0x01, flagZ := false, flagN := false, flagH := false, flagC := true, pc := 0x0100 })
    step s = .next { s with h := 0x80, pc := 0x0102, cycles := 8 } := rfl

/-- V103 (rule R342): SLA L. -/
theorem test_V103_sla_l :
    let s := (storeBytes 0x0100 [0xCB, 0x25] { State.reset with l := 0xC1, pc := 0x0100 })
    step s = .next { s with flagZ := false, flagN := false, flagH := false, flagC := true, l := 0x82, pc := 0x0102, cycles := 8 } := rfl

/-- V104 (rule R344): SRA A keeps sign. -/
theorem test_V104_sra_a_keeps_sign :
    let s := (storeBytes 0x0100 [0xCB, 0x2F] { State.reset with a := 0x81, pc := 0x0100 })
    step s = .next { s with a := 0xC0, flagZ := false, flagN := false, flagH := false, flagC := true, pc := 0x0102, cycles := 8 } := rfl

/-- V105 (rule R345): SRA (HL). -/
theorem test_V105_sra_hl :
    let s := (storeBytes 0x0100 [0xCB, 0x2E] (storeBytes 0xc000 [0x1] { State.reset with h := 0xC0, l := 0x00, pc := 0x0100 }))
    step s = .next { (storeBytes 0xc000 [0x0] s) with flagZ := true, flagN := false, flagH := false, flagC := true, pc := 0x0102, cycles := 16 } := rfl

/-- V106 (rule R346): SWAP A. -/
theorem test_V106_swap_a :
    let s := (storeBytes 0x0100 [0xCB, 0x37] { State.reset with a := 0xF1, flagZ := false, flagN := false, flagH := false, flagC := true, pc := 0x0100 })
    step s = .next { s with a := 0x1F, flagZ := false, flagN := false, flagH := false, flagC := false, pc := 0x0102, cycles := 8 } := rfl

/-- V107 (rule R346): SWAP B zero. -/
theorem test_V107_swap_b_zero :
    let s := (storeBytes 0x0100 [0xCB, 0x30] { State.reset with b := 0x00, pc := 0x0100 })
    step s = .next { s with flagZ := true, flagN := false, flagH := false, flagC := false, pc := 0x0102, cycles := 8 } := rfl

/-- V108 (rule R347): SWAP (HL). -/
theorem test_V108_swap_hl :
    let s := (storeBytes 0x0100 [0xCB, 0x36] (storeBytes 0xc000 [0x12] { State.reset with h := 0xC0, l := 0x00, pc := 0x0100 }))
    step s = .next { (storeBytes 0xc000 [0x21] s) with pc := 0x0102, cycles := 16 } := rfl

/-- V109 (rule R348): SRL A. -/
theorem test_V109_srl_a :
    let s := (storeBytes 0x0100 [0xCB, 0x3F] { State.reset with a := 0x81, pc := 0x0100 })
    step s = .next { s with a := 0x40, flagZ := false, flagN := false, flagH := false, flagC := true, pc := 0x0102, cycles := 8 } := rfl

/-- V110 (rule R349): SRL (HL) 0x01. -/
theorem test_V110_srl_hl_0x01 :
    let s := (storeBytes 0x0100 [0xCB, 0x3E] (storeBytes 0xc000 [0x1] { State.reset with h := 0xC0, l := 0x00, pc := 0x0100 }))
    step s = .next { (storeBytes 0xc000 [0x0] s) with flagZ := true, flagN := false, flagH := false, flagC := true, pc := 0x0102, cycles := 16 } := rfl

/-- V111 (rule R350): BIT 7,H set. -/
theorem test_V111_bit_7_h_set :
    let s := (storeBytes 0x0100 [0xCB, 0x7C] { State.reset with h := 0x80, flagZ := false, flagN := false, flagH := false, flagC := true, pc := 0x0100 })
    step s = .next { s with flagZ := false, flagN := false, flagH := true, flagC := true, pc := 0x0102, cycles := 8 } := rfl

/-- V112 (rule R350): BIT 0,A clear. -/
theorem test_V112_bit_0_a_clear :
    let s := (storeBytes 0x0100 [0xCB, 0x47] { State.reset with a := 0xFE, pc := 0x0100 })
    step s = .next { s with flagZ := true, flagN := false, flagH := true, flagC := false, pc := 0x0102, cycles := 8 } := rfl

/-- V113 (rule R351): BIT 3,(HL). -/
theorem test_V113_bit_3_hl :
    let s := (storeBytes 0x0100 [0xCB, 0x5E] (storeBytes 0xc000 [0x8] { State.reset with h := 0xC0, l := 0x00, pc := 0x0100 }))
    step s = .next { s with flagZ := false, flagN := false, flagH := true, flagC := false, pc := 0x0102, cycles := 12 } := rfl

/-- V114 (rule R352): RES 0,A. -/
theorem test_V114_res_0_a :
    let s := (storeBytes 0x0100 [0xCB, 0x87] { State.reset with a := 0xFF, flagZ := true, flagN := true, flagH := true, flagC := true, pc := 0x0100 })
    step s = .next { s with a := 0xFE, pc := 0x0102, cycles := 8 } := rfl

/-- V115 (rule R353): RES 7,(HL). -/
theorem test_V115_res_7_hl :
    let s := (storeBytes 0x0100 [0xCB, 0xBE] (storeBytes 0xc000 [0xff] { State.reset with h := 0xC0, l := 0x00, pc := 0x0100 }))
    step s = .next { (storeBytes 0xc000 [0x7f] s) with pc := 0x0102, cycles := 16 } := rfl

/-- V116 (rule R354): SET 7,B. -/
theorem test_V116_set_7_b :
    let s := (storeBytes 0x0100 [0xCB, 0xF8] { State.reset with b := 0x00, pc := 0x0100 })
    step s = .next { s with b := 0x80, pc := 0x0102, cycles := 8 } := rfl

/-- V117 (rule R355): SET 0,(HL). -/
theorem test_V117_set_0_hl :
    let s := (storeBytes 0x0100 [0xCB, 0xC6] (storeBytes 0xc000 [0x0] { State.reset with h := 0xC0, l := 0x00, pc := 0x0100 }))
    step s = .next { (storeBytes 0xc000 [0x1] s) with pc := 0x0102, cycles := 16 } := rfl

/-- V119 (rule R370): JP nn. -/
theorem test_V119_jp_nn :
    let s := (storeBytes 0x0100 [0xC3, 0x50, 0x01] { State.reset with pc := 0x0100 })
    step s = .next { s with pc := 0x0150, cycles := 16 } := rfl

/-- V120 (rule R371): JP NZ,nn taken. -/
theorem test_V120_jp_nz_nn_taken :
    let s := (storeBytes 0x0100 [0xC2, 0x00, 0x20] { State.reset with flagZ := false, flagN := false, flagH := false, flagC := false, pc := 0x0100 })
    step s = .next { s with pc := 0x2000, cycles := 16 } := rfl

/-- V121 (rule R371): JP Z,nn not taken. -/
theorem test_V121_jp_z_nn_not_taken :
    let s := (storeBytes 0x0100 [0xCA, 0x00, 0x20] { State.reset with flagZ := false, flagN := false, flagH := false, flagC := false, pc := 0x0100 })
    step s = .next { s with pc := 0x0103, cycles := 12 } := rfl

/-- V122 (rule R371): JP C,nn taken. -/
theorem test_V122_jp_c_nn_taken :
    let s := (storeBytes 0x0100 [0xDA, 0x00, 0x20] { State.reset with flagZ := false, flagN := false, flagH := false, flagC := true, pc := 0x0100 })
    step s = .next { s with pc := 0x2000, cycles := 16 } := rfl

/-- V123 (rule R372): JP (HL). -/
theorem test_V123_jp_hl :
    let s := (storeBytes 0x0100 [0xE9] { State.reset with h := 0x12, l := 0x34, pc := 0x0100 })
    step s = .next { s with pc := 0x1234, cycles := 4 } := rfl

/-- V124 (rule R374): JR e at 0 (source §8), NEXT. -/
theorem test_V124_jr_e_at_0_source_8_next :
    let s := (storeBytes 0x0000 [0x18, 0xAB] { State.reset with pc := 0x0000 })
    step s = .next { s with pc := 0xFFAD, cycles := 12 } := rfl

/-- V128 (rule R375): JR NZ taken backward. -/
theorem test_V128_jr_nz_taken_backward :
    let s := (storeBytes 0x0105 [0x20, 0xFB] { State.reset with flagZ := false, flagN := false, flagH := false, flagC := false, pc := 0x0105 })
    step s = .next { s with pc := 0x0102, cycles := 12 } := rfl

/-- V129 (rule R375): JR NC not taken. -/
theorem test_V129_jr_nc_not_taken :
    let s := (storeBytes 0x0100 [0x30, 0x10] { State.reset with flagZ := false, flagN := false, flagH := false, flagC := true, pc := 0x0100 })
    step s = .next { s with pc := 0x0102, cycles := 8 } := rfl

/-- V130 (rule R375): JR C taken. -/
theorem test_V130_jr_c_taken :
    let s := (storeBytes 0x0100 [0x38, 0x10] { State.reset with flagZ := false, flagN := false, flagH := false, flagC := true, pc := 0x0100 })
    step s = .next { s with pc := 0x0112, cycles := 12 } := rfl

/-- V131 (rule R376): CALL nn. -/
theorem test_V131_call_nn :
    let s := (storeBytes 0x0150 [0xCD, 0x34, 0x12] { State.reset with sp := 0xFFFE, pc := 0x0150 })
    step s = .next { (storeBytes 0xfffd [0x1] (storeBytes 0xfffc [0x53] s)) with sp := 0xFFFC, pc := 0x1234, cycles := 24 } := rfl

/-- V132 (rule R377): CALL Z,nn not taken. -/
theorem test_V132_call_z_nn_not_taken :
    let s := (storeBytes 0x0150 [0xCC, 0x34, 0x12] { State.reset with sp := 0xFFFE, flagZ := false, flagN := false, flagH := false, flagC := false, pc := 0x0150 })
    step s = .next { s with pc := 0x0153, cycles := 12 } := rfl

/-- V133 (rule R377): CALL NC,nn taken. -/
theorem test_V133_call_nc_nn_taken :
    let s := (storeBytes 0x0100 [0xD4, 0x00, 0x02] { State.reset with sp := 0xD000, flagZ := false, flagN := false, flagH := false, flagC := false, pc := 0x0100 })
    step s = .next { (storeBytes 0xcfff [0x1] (storeBytes 0xcffe [0x3] s)) with sp := 0xCFFE, pc := 0x0200, cycles := 24 } := rfl

/-- V134 (rule R378): RET. -/
theorem test_V134_ret :
    let s := (storeBytes 0x1234 [0xC9] (storeBytes 0xcfff [0x1] (storeBytes 0xcffe [0x53] { State.reset with sp := 0xCFFE, pc := 0x1234 })))
    step s = .next { s with sp := 0xD000, pc := 0x0153, cycles := 16 } := rfl

/-- V135 (rule R379): RET C taken. -/
theorem test_V135_ret_c_taken :
    let s := (storeBytes 0x0100 [0xD8] (storeBytes 0xcfff [0x3] (storeBytes 0xcffe [0x0] { State.reset with sp := 0xCFFE, flagZ := false, flagN := false, flagH := false, flagC := true, pc := 0x0100 })))
    step s = .next { s with sp := 0xD000, pc := 0x0300, cycles := 20 } := rfl

/-- V136 (rule R379): RET NZ not taken. -/
theorem test_V136_ret_nz_not_taken :
    let s := (storeBytes 0x0100 [0xC0] (storeBytes 0xcfff [0x3] (storeBytes 0xcffe [0x0] { State.reset with sp := 0xCFFE, flagZ := true, flagN := false, flagH := false, flagC := false, pc := 0x0100 })))
    step s = .next { s with pc := 0x0101, cycles := 8 } := rfl

/-- V137 (rule R380): RETI sets IME. -/
theorem test_V137_reti_sets_ime :
    let s := (storeBytes 0x0100 [0xD9] (storeBytes 0xcfff [0x3] (storeBytes 0xcffe [0x0] { State.reset with sp := 0xCFFE, pc := 0x0100 })))
    step s = .next { s with sp := 0xD000, pc := 0x0300, ime := true, cycles := 16 } := rfl

/-- V138 (rule R381): RST 0x28 at 0x0200. -/
theorem test_V138_rst_0x28_at_0x0200 :
    let s := (storeBytes 0x0200 [0xEF] { State.reset with sp := 0xD000, pc := 0x0200 })
    step s = .next { (storeBytes 0xcfff [0x2] (storeBytes 0xcffe [0x1] s)) with sp := 0xCFFE, pc := 0x0028, cycles := 16 } := rfl

/-- V139 (rule R381): RST 0x38 at 0x0000. -/
theorem test_V139_rst_0x38_at_0x0000 :
    let s := (storeBytes 0x0000 [0xFF] { State.reset with sp := 0xD000, pc := 0x0000 })
    step s = .next { (storeBytes 0xcffe [0x1] s) with sp := 0xCFFE, pc := 0x0038, cycles := 16 } := rfl

/-- V140 (rule R400): NOP. -/
theorem test_V140_nop :
    let s := (storeBytes 0x0100 [0x00] { State.reset with pc := 0x0100 })
    step s = .next { s with pc := 0x0101, cycles := 4 } := rfl

/-- V141 (rule R401): DI. -/
theorem test_V141_di :
    let s := (storeBytes 0x0100 [0xF3] { State.reset with ime := true, pc := 0x0100 })
    step s = .next { s with pc := 0x0101, ime := false, cycles := 4 } := rfl

/-- V143 (rule R402): EI. -/
theorem test_V143_ei :
    let s := (storeBytes 0x0100 [0xFB] { State.reset with pc := 0x0100 })
    step s = .next { s with pc := 0x0101, imeNext := true, cycles := 4 } := rfl

/-- V149 (rule R403): HALT faults. -/
theorem test_V149_halt_faults :
    let s := (storeBytes 0x0100 [0x76] { State.reset with pc := 0x0100 })
    step s = .next { s with run := .faulted (.unimplemented 0x76 0x0100) } := rfl

/-- V150 (rule R404): STOP faults. -/
theorem test_V150_stop_faults :
    let s := (storeBytes 0x0100 [0x10, 0x00] { State.reset with pc := 0x0100 })
    step s = .next { s with run := .faulted (.unimplemented 0x10 0x0100) } := rfl

/-- V151 (rule R405): unused 0xD3. -/
theorem test_V151_unused_0xd3 :
    let s := (storeBytes 0x0100 [0xD3] { State.reset with pc := 0x0100 })
    step s = .next { s with run := .faulted (.unusedOpcode 0xD3 0x0100) } := rfl

/-- V152 (rule R405): unused 0xFD. -/
theorem test_V152_unused_0xfd :
    let s := (storeBytes 0x0100 [0xFD] { State.reset with pc := 0x0100 })
    step s = .next { s with run := .faulted (.unusedOpcode 0xFD 0x0100) } := rfl

/-- V153 (rule R405): unused 0xEB at 0xFE9F (decode class before fetch). -/
theorem test_V153_unused_0xeb_at_0xfe9f_decode_class_befor :
    let s := (storeBytes 0xFE9F [0xEB] { State.reset with pc := 0xFE9F })
    step s = .next { s with run := .faulted (.unusedOpcode 0xEB 0xFE9F) } := rfl

/-- V155 (rule R406): escape at 0xFE9F: op2 fetch faults. -/
theorem test_V155_escape_at_0xfe9f_op2_fetch_faults :
    let s := (storeBytes 0xFE9F [0xCB] { State.reset with pc := 0xFE9F })
    step s = .next { s with run := .faulted (.unmappedAccess 0xFEA0 .read 0xFE9F) } := rfl

/-- V156 (rule R203): LD A,n at 0xFE9F: immediate fetch faults. -/
theorem test_V156_ld_a_n_at_0xfe9f_immediate_fetch_faults :
    let s := (storeBytes 0xFE9F [0x3E] { State.reset with pc := 0xFE9F })
    step s = .next { s with run := .faulted (.unmappedAccess 0xFEA0 .read 0xFE9F) } := rfl

/-- V158 (rule R424): fetch from 0xFEA0 faults. -/
theorem test_V158_fetch_from_0xfea0_faults :
    let s := { State.reset with pc := 0xFEA0 }
    step s = .next { s with run := .faulted (.unmappedAccess 0xFEA0 .read 0xFEA0) } := rfl

/-- V159 (rule R76): fetch from 0xFEA0, Storage: NOP. -/
theorem test_V159_fetch_from_0xfea0_storage_nop :
    let s := { State.reset with pc := 0xFEA0, cfg := { Config.standard with unmappedPolicy := .storage } }
    step s = .next { s with pc := 0xFEA1, cycles := 4 } := rfl

/-! ### Witnesses: states and operands that meet the hypotheses of the statements -/

/-- Bytes at 0x0100, and pc there. -/
def code (bs : List Byte) (s : State) : State := { storeBytes 0x0100 bs s with pc := 0x0100 }

/-- A state with two bytes of work RAM set, every pair but BC at the first of them, BC above it, and the stack at 0xD002. -/
def work : State :=
  storeBytes 0xC000 [0x99, 0x12]
    { State.reset with a := 0x45, b := 0xC0, c := 0x01, d := 0xC0, h := 0xC0, sp := 0xD002, pc := 0x0100 }

/-- `work` with HL elsewhere. -/
def workHL (a : Word) : State := work.setHL a

/-- `work` with SP elsewhere. -/
def workSP (a : Word) : State := work.setSP a

theorem work_inv : StorageInv work := by unfold StorageInv; decide

theorem work_live : Live work := rfl

/-- The mapped addresses on either side of the gap. -/
theorem witness_ResetState : Mapped State.reset.cfg 0xFE9F ∧ Mapped State.reset.cfg 0xFF00 := by
  unfold Mapped; decide

/-- A step that stores a byte. -/
theorem witness_StepKeepsInv : StorageInv (code [0x77] work) ∧ ∃ t, step (code [0x77] work) = .next t :=
  ⟨by unfold StorageInv; decide, _, rfl⟩

theorem witness_DecodeUndoesEncode : Instr.wellFormed (.ldAtImm16SP 0xFFFF) = true ∧ Instr.wellFormed .set7AtHL = true := ⟨rfl, rfl⟩

/-- An instruction whose bytes wrap past 0xFFFF: the IE cell holds its first byte. -/
theorem witness_StepRunsDecoded :
    let s := storeBytes 0x0000 [0x34, 0x12] { State.reset with ie := true, pc := 0xFFFF }
    Live s ∧ decode [0x01, 0x34, 0x12] = .ok (.ldBCImm16 0x1234, []) ∧
    ∀ k v, k < ([0x01, 0x34, 0x12] : List Byte).length - ([] : List Byte).length →
      ([0x01, 0x34, 0x12] : List Byte)[k]? = some v → peek8 (s.pc + BitVec.ofNat 16 k) s = some v := by
  refine ⟨rfl, rfl, fun k v hk h => ?_⟩
  match k with
  | 0 => cases h; rfl
  | 1 => cases h; rfl
  | 2 => cases h; rfl
  | k + 3 => cases h

/-- Each fetch at the first address of the gap. -/
theorem witness_FetchFaultsInOrder :
    Live work ∧ peek8 0xFEA0 { work with pc := 0xFEA0 } = none ∧
    (let s := storeBytes 0xFE9F [0x3E] { work with pc := 0xFE9F }
     peek8 s.pc s = some 0x3E ∧ 2 ≤ (primaryEntry 0x3E).bytes ∧ peek8 (s.pc + 1) s = none) ∧
    (let s := storeBytes 0xFE9E [0xC3] { work with pc := 0xFE9E }
     peek8 s.pc s = some 0xC3 ∧ 3 ≤ (primaryEntry 0xC3).bytes ∧ (∃ v, peek8 (s.pc + 1) s = some v) ∧
     peek8 (s.pc + 2) s = none) :=
  ⟨rfl, rfl, ⟨rfl, by decide, rfl⟩, rfl, by decide, ⟨_, rfl⟩, rfl⟩

/-- Both lists, at the last byte before the gap. -/
theorem witness_StoppingRows :
    (let s := storeBytes 0xFE9F [0xFD] { work with pc := 0xFE9F }
     Live s ∧ peek8 s.pc s = some 0xFD) ∧
    (let s := storeBytes 0xFE9F [0x10] { work with pc := 0xFE9F }
     Live s ∧ peek8 s.pc s = some 0x10) := ⟨⟨rfl, rfl⟩, rfl, rfl⟩

/-- (HL) mapped at the edge, and a second byte that does not name (HL) with HL in the gap. -/
theorem witness_EscapeByte :
    (BitVec.toNat (0x46 : Byte) % 8 = 6 → Mapped (workHL 0xFE9F).cfg (workHL 0xFE9F).hl) ∧
    (BitVec.toNat (0x40 : Byte) % 8 = 6 → Mapped (workHL 0xFEA0).cfg (workHL 0xFEA0).hl) := by
  unfold Mapped; decide

theorem witness_FaultsAreAtomic : Live work ∧
    ({ work with run := .faulted (.unimplemented 0x76 0x0100) } : State).run = .faulted (.unimplemented 0x76 0x0100) := ⟨rfl, rfl⟩

theorem witness_UnmappedFaultIsReal : Live (code [0x7E] (workHL 0xFEFF)) ∧
    ∃ t, step (code [0x7E] (workHL 0xFEFF)) = .next t ∧ t.run = .faulted (.unmappedAccess 0xFEFF .read 0x0100) :=
  ⟨rfl, _, rfl, rfl⟩

/-- An instruction and an escape row, with HL in the gap as storage. -/
theorem witness_NothingElseFaults :
    let s := { workHL 0xFEA0 with cfg := { Config.standard with unmappedPolicy := .storage } }
    Live s ∧ s.cfg.unmappedPolicy = .storage ∧
    (peek8 0x0100 (code [0x7E] s) = some 0x7E ∧ opClass 0x7E = .instruction ∧ ∃ t, step (code [0x7E] s) = .next t) ∧
    (peek8 0x0100 (code [0xCB, 0x06] s) = some 0xCB ∧ opClass 0xCB = .escape ∧ ∃ t, step (code [0xCB, 0x06] s) = .next t) :=
  ⟨rfl, rfl, ⟨rfl, rfl, _, rfl⟩, rfl, rfl, _, rfl⟩

/-- A body whose first access is refused, one whose second is, a load that is, and one that none of is. -/
theorem witness_BodyFaultsExactly :
    (Live work ∧ Instr.cost (Instr.core .pushBC) (workSP 0xFEA1) = some 16 ∧
      Instr.firstRefused (Instr.core .pushBC) (workSP 0xFEA1) = some (0xFEA0, .write)) ∧
    Instr.firstRefused (Instr.core .pushBC) (workSP 0xFF01) = some (0xFEFF, .write) ∧
    Instr.firstRefused (Instr.core .incAtHL) (workHL 0xFEFF) = some (0xFEFF, .read) ∧
    (Instr.firstRefused (Instr.core .pushBC) work = none ∧ Instr.cost (Instr.core .pushBC) work = some 16) :=
  ⟨⟨rfl, rfl, rfl⟩, rfl, rfl, rfl, rfl⟩

/-- A conditional instruction, both ways, and the other instructions that complete. -/
theorem witness_CompletedCost :
    (∃ t, Completes (.jrNZDisp 0x02) work t) ∧ (∃ t, Completes (.jrZDisp 0x02) work t) ∧
    ∃ t, step (code [0x20, 0x02] work) = .next t :=
  ⟨⟨_, rfl, rfl, rfl⟩, ⟨_, rfl, rfl, rfl⟩, _, rfl⟩

theorem witness_LatchesAfterCompletion :
    (∃ t, Completes .di work t) ∧ (∃ t, Completes .reti work t) ∧ (∃ t, Completes .ei work t) ∧ ∃ t, Completes .addAB work t :=
  ⟨⟨_, rfl, rfl, rfl⟩, ⟨_, rfl, rfl, rfl⟩, ⟨_, rfl, rfl, rfl⟩, _, rfl, rfl, rfl⟩

/-- The instruction after EI: one that completes, DI, and one that faults. -/
theorem witness_EiTakesEffectAfterNext :
    (∃ t u, Live work ∧ work.imeNext = false ∧ exec .ei work = .next t ∧ step t = .next u ∧ Live u) ∧
    (let s := storeBytes 0x0101 [0xF3] work
     ∃ t u, Live s ∧ s.imeNext = false ∧ exec .ei s = .next t ∧ step t = .next u ∧ Live u ∧ peek8 t.pc t = some 0xF3) ∧
    (let s := storeBytes 0x0101 [0x76] work
     ∃ t u, Live s ∧ s.imeNext = false ∧ exec .ei s = .next t ∧ step t = .next u ∧ ¬ Live u) :=
  ⟨⟨_, _, rfl, rfl, rfl, rfl, rfl⟩, ⟨_, _, rfl, rfl, rfl, rfl, rfl, rfl⟩, _, _, rfl, rfl, rfl, rfl, by unfold Live; decide⟩

/-- An instruction at the last address, and a conditional one that is not taken. -/
theorem witness_PcAdvancesByLength :
    (∃ t, Completes .nop { work with pc := 0xFFFF } t ∧ Instr.transfers (Instr.core .nop) { work with pc := 0xFFFF } = false) ∧
    ∃ t, Completes (.callZImm16 0x1234) work t ∧ Instr.transfers (Instr.core (.callZImm16 0x1234)) work = false :=
  ⟨⟨_, ⟨rfl, rfl, rfl⟩, rfl⟩, _, ⟨rfl, rfl, rfl⟩, rfl⟩

theorem witness_FlagFrame : (∃ t, Completes .daa work t) ∧ (∃ t, Completes .cpl work t) ∧ ∃ t, Completes (.prefixCB 0x36) work t :=
  ⟨⟨_, rfl, rfl, rfl⟩, ⟨_, rfl, rfl, rfl⟩, _, rfl, rfl, rfl⟩

theorem witness_RegisterFrame :
    (∃ t, exec .ldAAtHLInc work = .next t) ∧ Reg8.b ∉ Instr.regsWritten (Instr.core .ldAAtHLInc) ∧
    Instr.writesSP (Instr.core .ldAAtHLInc) = false := ⟨⟨_, rfl⟩, by decide, rfl⟩

/-- An address beside the stored byte, and one beside its echo. -/
theorem witness_MemoryFrame : (∃ t, exec .ldAtHLB work = .next t) ∧
    (∀ b ∈ Instr.storeAddrs (Instr.core .ldAtHLB) work, ¬ sameStorage work.cfg 0xC001 b) ∧
    (∀ b ∈ Instr.storeAddrs (Instr.core .ldAtHLB) work, ¬ sameStorage work.cfg 0xE001 b) := by
  have h : Instr.storeAddrs (Instr.core .ldAtHLB) work = [0xC000] := rfl
  have hc : work.cfg = Config.standard := rfl
  refine ⟨⟨_, rfl⟩, ?_, ?_⟩ <;> rw [h, hc] <;> intro b hb <;> rw [List.mem_singleton.1 hb] <;> unfold sameStorage <;> decide

theorem witness_ImeAndCyclesAreNotRead : ∃ t, step (code [0xFB] work) = .next t := ⟨_, rfl⟩

/-- The first and last address of every region (R71). -/
theorem witness_RegionMap :
    [0x0000, 0x3FFF, 0x4000, 0x7FFF, 0x8000, 0x9FFF, 0xA000, 0xBFFF, 0xC000, 0xCFFF, 0xD000, 0xDFFF].map Machine.translate =
      [(.rom0, 0), (.rom0, 0x3FFF), (.rom1, 0), (.rom1, 0x3FFF), (.vram, 0), (.vram, 0x1FFF), (.eram, 0), (.eram, 0x1FFF),
        (.wram0, 0), (.wram0, 0x0FFF), (.wram1, 0), (.wram1, 0x0FFF)] ∧
    [0xE000, 0xFDFF, 0xFE00, 0xFE9F, 0xFEA0, 0xFEFF, 0xFF00, 0xFF7F, 0xFF80, 0xFFFE, 0xFFFF].map Machine.translate =
      [(.echo, 0), (.echo, 7679), (.oam, 0), (.oam, 159), (.unmapped, 0), (.unmapped, 95), (.io, 0), (.io, 127), (.hram, 0),
        (.hram, 126), (.ie, 0)] := ⟨rfl, rfl⟩

/-- Both ends of the gap, and their neighbours. -/
theorem witness_GapPolicy : peek8 0xFE9F work = some 0 ∧ peek8 0xFEA0 work = none ∧ peek8 0xFEFF work = none ∧
    peek8 0xFF00 work = some 0 ∧ poke8 0xFEA0 0x01 work = none ∧ (∃ t, poke8 0xFF00 0x01 work = some t) :=
  ⟨rfl, rfl, rfl, rfl, rfl, _, rfl⟩

/-- A plain byte, the IE cell with a zero and a nonzero byte, and an address that shares no storage. -/
theorem witness_StoreThenLoad : StorageInv work ∧ (∃ t, poke8 0xC000 0x00 work = some t) ∧
    (∃ t, poke8 0xFFFF 0x00 work = some t) ∧ (∃ t, poke8 0xFFFF 0x80 work = some t) ∧
    ¬ sameStorage work.cfg 0xC001 0xC000 :=
  ⟨work_inv, ⟨_, rfl⟩, ⟨_, rfl⟩, ⟨_, rfl⟩, by unfold sameStorage; decide⟩

/-- Both ends of echo RAM, with the mirror on and off. -/
theorem witness_EchoMirror :
    (0xE000 ≤ (0xE000 : Word).toNat ∧ (0xC000 : Word).toNat + 0x2000 = (0xE000 : Word).toNat) ∧
    ((0xFDFF : Word).toNat ≤ 0xFDFF ∧ (0xDDFF : Word).toNat + 0x2000 = (0xFDFF : Word).toNat) ∧ work.cfg.echoMirror = true ∧
    (let s := { work with cfg := { Config.standard with echoMirror := false } }
     s.cfg.echoMirror = false ∧ (∃ t, poke8 0xE000 0x01 s = some t) ∧ ∃ t, poke8 0xC000 0x01 s = some t) :=
  ⟨by decide, by decide, rfl, rfl, ⟨_, rfl⟩, _, rfl⟩

/-- A read that wraps, and a write on the last two bytes of HRAM below the IE cell. -/
theorem witness_WideAccessesAreLittleEndian :
    (peek8 0xFFFF work = some 0 ∧ peek8 (0xFFFF + 1) work = some 0) ∧
    (Live work ∧ StorageInv work ∧ Mapped work.cfg 0xFFFD ∧ Mapped work.cfg (0xFFFD + 1) ∧ (0xFFFD : Word) ≠ 0xFFFF ∧
      (0xFFFD : Word) + 1 ≠ 0xFFFF) :=
  ⟨⟨rfl, rfl⟩, rfl, work_inv, by unfold Mapped; decide, by unfold Mapped; decide, by decide, by decide⟩

theorem witness_HostSetThenGet : RegName.width .a = 8 ∧ RegName.width .af = 16 ∧ Live work ∧
    Value.width (.w8 0x01) ≠ RegName.width .hl ∧ Value.width (.w16 0x0001) ≠ RegName.width .c :=
  ⟨rfl, rfl, rfl, by decide, by decide⟩

theorem witness_HostAccessIsAtomic : Live work ∧ peek8 0xC000 work = some 0x99 ∧ peek8 0xFEA0 work = none ∧
    peek8 0xFE9F work ≠ none ∧ peek8 (0xFE9F + 1) work = none := ⟨rfl, rfl, rfl, by decide, rfl⟩

/-- Q5: a word written at 0xDFFF and 0xE000, the alias of 0xC000, reads back. -/
theorem test_wide_round_trip_across_echo : (hostRead 0xDFFF true (hostWrite 0xDFFF (.w16 0x1234) work)).1 = some (.w16 0x1234) ∧
    peek8 0xC000 (hostWrite 0xDFFF (.w16 0x1234) work) = some 0x12 := ⟨rfl, rfl⟩

/-- The longest image, and a mapped address of it. -/
theorem witness_HostBootAndLoop : (List.replicate 0x8000 (0x00 : Byte)).length ≤ 0x8000 ∧ Mapped Config.standard 0x7FFF ∧ Live work :=
  ⟨Nat.le_of_eq List.length_replicate, by unfold Mapped; decide, rfl⟩

/-- The state a record is executed in: HL, BC and DE stand elsewhere than at `lookup`, and Z is turned over. -/
def moved (s : State) : State := { ((s.setHL 0xD000).setBC 0xD000).setDE 0xD000 with flagZ := !s.flagZ }

/-- `lookup` of the bytes at pc, from `work` with those bytes placed. -/
def looked (op : Byte) (rest : List Byte) (s : State) : Option Instruction := (hostLookup op (code (op :: rest) s)).1

/-- A record for each clause: LD B,(HL), LD (HL),A, LD A,(BC), LD A,(DE), JP NZ,nn, RET Z not taken, LD A,(HL+), LD A,(HL-), and one
whose address lies in the gap. -/
theorem witness_HostBootAndLoop_record :
    (looked 0x46 [] work = some ⟨ldInstr (.reg .b) .atHL, some 0xC000, none⟩ ∧ peek8 0xC000 (moved work) = some 0x99) ∧
    (looked 0x77 [] work = some ⟨ldInstr .atHL (.reg .a), some 0xC000, none⟩ ∧
      ∃ u, poke8 0xC000 ((moved work).getReg .a) (charged 8 (moved work)) = some u) ∧
    (looked 0x0A [] work = some ⟨.ldAAtBC, some 0xC001, none⟩ ∧ peek8 0xC001 (moved work) = some 0x12) ∧
    (looked 0x1A [] work = some ⟨.ldAAtDE, some 0xC000, none⟩ ∧ peek8 0xC000 (moved work) = some 0x99) ∧
    looked 0xC2 [0x34, 0x12] work = some ⟨jpCcInstr .nz 0x1234, none, some true⟩ ∧
    (looked 0xC8 [] work = some ⟨retCcInstr .z, none, some false⟩ ∧ work.cond .z = false) ∧
    (looked 0x2A [] work = some ⟨.ldAAtHLInc, some 0xC000, none⟩ ∧ Instr.postEffect .ldAAtHLInc = some .increment) ∧
    (looked 0x3A [] work = some ⟨.ldAAtHLDec, some 0xC000, none⟩ ∧ Instr.postEffect .ldAAtHLDec = some .decrement) ∧
    (looked 0x7E [] (workHL 0xFEA0) = some ⟨.ldAAtHL, some 0xFEA0, none⟩ ∧ ¬ Mapped (moved work).cfg 0xFEA0) := by
  refine ⟨⟨rfl, rfl⟩, ⟨rfl, _, rfl⟩, ⟨rfl, rfl⟩, ⟨rfl, rfl⟩, rfl, ⟨rfl, rfl⟩, ⟨rfl, rfl⟩, ⟨rfl, rfl⟩, rfl, ?_⟩
  unfold Mapped
  decide

/-- R133, R119: the address of LD B,(HL) is the one HL held at `lookup`. -/
theorem test_record_keeps_address : ∀ r, looked 0x46 [] work = some r →
    hostExecute r (moved work) = .next { charged 8 (moved work) with b := 0x99, pc := 0x0101 } := by
  rintro r ⟨⟩
  rfl

/-- R171: RET Z looked up with Z = 0 is not taken, although Z is 1 when it is executed. -/
theorem test_record_keeps_condition : ∀ r, looked 0xC8 [] work = some r →
    hostExecute r (moved work) = .next { charged 8 (moved work) with pc := 0x0101 } := by
  rintro r ⟨⟩
  rfl

/-- R133: the fields of the records of LD A,(HL-) and JP NZ,nn. -/
theorem test_record_fields : ∀ q r, looked 0x3A [] work = some q → looked 0xC2 [0x34, 0x12] work = some r →
    (q.length, q.cycles, q.cyclesNotTaken, q.post) = (1, some 8, none, some .decrement) ∧
    (r.length, r.cycles, r.cyclesNotTaken, r.post) = (3, some 16, some 12, none) := by
  rintro q r ⟨⟩ ⟨⟩
  exact ⟨rfl, rfl⟩

/-- HL at a byte of work RAM, at the last byte before the gap, at the first after it, and at the IE cell. -/
theorem witness_readable_HL : peek8 work.hl work = some 0x99 ∧ peek8 (workHL 0xFE9F).hl (workHL 0xFE9F) = some 0 ∧
    peek8 (workHL 0xFF00).hl (workHL 0xFF00) = some 0 ∧ peek8 (workHL 0xFFFF).hl (workHL 0xFFFF) = some 0 :=
  ⟨rfl, rfl, rfl, rfl⟩

theorem witness_LoadRegister : peek8 work.hl work = some 0x99 := rfl

/-- A store to work RAM, and one to the IE cell. -/
theorem witness_StoreThroughHL : (∃ t, poke8 work.hl (work.getReg .h) (charged 8 work) = some t) ∧
    (∃ t, poke8 (workHL 0xFFFF).hl 0x02 (charged 12 (workHL 0xFFFF)) = some t) := ⟨⟨_, rfl⟩, _, rfl⟩

theorem witness_LoadAccumulator : peek8 work.bc work = some 0x12 ∧ peek8 work.de work = some 0x99 ∧
    peek8 0xFFFF work = some 0 ∧ peek8 (BitVec.ofNat 16 (0xFF00 + (0xFF : Byte).toNat)) work = some 0 ∧
    peek8 (BitVec.ofNat 16 (0xFF00 + work.c.toNat)) work = some 0 := ⟨rfl, rfl, rfl, rfl, rfl⟩

theorem witness_StoreAccumulator : (∃ t, poke8 work.bc work.a (charged 8 work) = some t) ∧
    (∃ t, poke8 work.de work.a (charged 8 work) = some t) ∧ (∃ t, poke8 0xFFFF work.a (charged 16 work) = some t) ∧
    (∃ t, poke8 (BitVec.ofNat 16 (0xFF00 + (0x00 : Byte).toNat)) work.a (charged 12 work) = some t) ∧
    (∃ t, poke8 (BitVec.ofNat 16 (0xFF00 + work.c.toNat)) work.a (charged 8 work) = some t) :=
  ⟨⟨_, rfl⟩, ⟨_, rfl⟩, ⟨_, rfl⟩, ⟨_, rfl⟩, _, rfl⟩

/-- HL at 0xFFFF, where the step up wraps, and at 0x0000, where the step down does. -/
theorem witness_AutoIndex : peek8 (workHL 0xFFFF).hl (workHL 0xFFFF) = some 0 ∧
    (∃ t, poke8 (workHL 0x0000).hl (workHL 0x0000).a (charged 8 (workHL 0x0000)) = some t) := ⟨rfl, _, rfl⟩

/-- The second byte wraps to 0x0000. -/
theorem witness_LoadPairStoreSP : ∃ t u, poke8 0xFFFF (lo8 work.sp) (charged 20 work) = some t ∧
    poke8 (0xFFFF + 1) (hi8 work.sp) t = some u := ⟨_, _, rfl, rfl⟩

/-- A stack that wraps: the high byte at 0xFFFF, the IE cell, for SP = 0x0000. -/
theorem witness_PushPair : (∃ t u, poke8 (work.sp - 1) (hi8 (work.getStackPair .af)) (charged 16 work) = some t ∧
    poke8 (work.sp - 2) (lo8 (work.getStackPair .af)) t = some u) ∧
    (let s := workSP 0x0000
     ∃ t u, poke8 (s.sp - 1) (hi8 (s.getStackPair .bc)) (charged 16 s) = some t ∧
       poke8 (s.sp - 2) (lo8 (s.getStackPair .bc)) t = some u) := ⟨⟨_, _, rfl, rfl⟩, _, _, rfl, rfl⟩

theorem witness_PopPair : (peek8 (workSP 0xC000).sp (workSP 0xC000) = some 0x99 ∧
    peek8 ((workSP 0xC000).sp + 1) (workSP 0xC000) = some 0x12) ∧
    (peek8 (workSP 0xFFFF).sp (workSP 0xFFFF) = some 0 ∧ peek8 ((workSP 0xFFFF).sp + 1) (workSP 0xFFFF) = some 0) :=
  ⟨⟨rfl, rfl⟩, rfl, rfl⟩

theorem witness_PushThenPop : StorageInv work ∧ work.sp - 1 ≠ 0xFFFF ∧ work.sp - 2 ≠ 0xFFFF ∧
    ∃ t u, Completes (pushInstr .af) work t ∧ Completes (popInstr .af) t u :=
  ⟨work_inv, by decide, by decide, _, _, ⟨rfl, rfl, rfl⟩, rfl, rfl, rfl⟩

theorem witness_AddToAccumulator : peek8 work.hl work = some 0x99 := rfl

theorem witness_SubtractFromAccumulator : peek8 work.hl work = some 0x99 := rfl

theorem witness_LogicOnAccumulator : peek8 work.hl work = some 0x99 := rfl

theorem witness_IncrementDecrement8 : peek8 work.hl work = some 0x99 ∧
    (∃ t, poke8 work.hl (0x99 + 1) (charged 12 work) = some t) ∧ (∃ t, poke8 work.hl (0x99 - 1) (charged 12 work) = some t) :=
  ⟨rfl, ⟨_, rfl⟩, _, rfl⟩

theorem witness_AccumulatorAdjust : 0x66 = daaCorrection 0x9A false false false ∧ 0x00 = daaCorrection 0x99 false false false ∧
    0x06 = daaCorrection 0x9A true true false := ⟨rfl, rfl, rfl⟩

/-- The largest decimal byte, added to itself and subtracted from a smaller one. -/
theorem witness_DaaIsDecimal : isBcd 0x45 ∧ isBcd 0x99 ∧ isBcd work.a ∧
    (∃ t u, exec (.addAImm 0x99) work = .next t ∧ exec .daa t = .next u) ∧
    (∃ t u, exec (.subImm 0x99) work = .next t ∧ exec .daa t = .next u) :=
  ⟨by unfold isBcd; decide, by unfold isBcd; decide, by unfold isBcd; decide, ⟨_, _, rfl, rfl⟩, _, _, rfl, rfl⟩

theorem witness_RotateAccumulator :
    (Instr.rra, RotOp.rr) ∈ [(Instr.rlca, RotOp.rlc), (.rrca, .rrc), (.rla, .rl), (.rra, .rr)] := by decide

theorem witness_RotateAtHL : peek8 work.hl work = some 0x99 ∧
    ∃ t, poke8 work.hl (BitVec.ofNat 8 (shifted .rlc 0x99 work.flagC).1) (charged 16 work) = some t := ⟨rfl, _, rfl⟩

theorem witness_BitTest : peek8 work.hl work = some 0x99 := rfl

/-- Bits 0 and 7. -/
theorem witness_BitResetSet : peek8 work.hl work = some 0x99 ∧
    (∃ t, poke8 work.hl (BitVec.ofNat 8 ((0x99 : Byte).toNat - 2 ^ Idx3.toNat .i7 * bitOf .i7 0x99)) (charged 16 work) = some t) ∧
    (∃ t, poke8 work.hl (BitVec.ofNat 8 ((0x99 : Byte).toNat + 2 ^ Idx3.toNat .i0 * (1 - bitOf .i0 0x99))) (charged 16 work) = some t) :=
  ⟨rfl, ⟨_, rfl⟩, _, rfl⟩

/-- The extreme displacements, under both settings of the base. -/
theorem witness_RelativeJumps :
    (0x0082 : Word) = BitVec.ofInt 16 ((work.pc.toNat : Int) + (if work.cfg.jrTargetBase = .next then 2 else 0) + signedDisp 0x80) ∧
    (let s := { work with cfg := { Config.standard with jrTargetBase := .opcode } }
     (0x017F : Word) = BitVec.ofInt 16 ((s.pc.toNat : Int) + (if s.cfg.jrTargetBase = .next then 2 else 0) + signedDisp 0x7F)) :=
  ⟨by decide, by decide⟩

/-- A call's two stores, a condition that holds and one that does not, and a restart's two stores. -/
theorem witness_Calls :
    (∃ t u, poke8 (work.sp - 1) (hi8 (work.pc + 3)) (charged 24 work) = some t ∧ poke8 (work.sp - 2) (lo8 (work.pc + 3)) t = some u) ∧
    work.cond .nz = true ∧ work.cond .z = false ∧
    (∃ t u, poke8 (work.sp - 1) (hi8 (work.pc + 1)) (charged 16 work) = some t ∧ poke8 (work.sp - 2) (lo8 (work.pc + 1)) t = some u) :=
  ⟨⟨_, _, rfl, rfl⟩, rfl, rfl, _, _, rfl, rfl⟩

theorem witness_Returns : peek8 (workSP 0xC000).sp (workSP 0xC000) = some 0x99 ∧
    peek8 ((workSP 0xC000).sp + 1) (workSP 0xC000) = some 0x12 ∧ (workSP 0xC000).cond .nc = true ∧
    (workSP 0xC000).cond .c = false := ⟨rfl, rfl, rfl, rfl⟩

theorem witness_CallThenReturn : StorageInv work ∧ work.sp - 1 ≠ 0xFFFF ∧ work.sp - 2 ≠ 0xFFFF ∧
    ∃ t u, Completes (.callImm16 0x2000) work t ∧ Completes .ret t u :=
  ⟨work_inv, by decide, by decide, _, _, ⟨rfl, rfl, rfl⟩, rfl, rfl, rfl⟩

end Sys2Proof.Tests
end

section
namespace Sys2Proof.Machine

/-! SUPPORT. The register views, the reset state and the host's register access (10_state.md R32 to R39, R47). -/

/-! ### F as a byte, and AF -/

/-- F as a number: the four flags in bits 7 to 4, and zero below (R32). -/
theorem State.fByte_toNat (s : State) :
    s.fByte.toNat = 128 * s.flagZ.toNat + 64 * s.flagN.toNat + 32 * s.flagH.toNat + 16 * s.flagC.toNat := by
  unfold State.fByte
  cases s.flagZ <;> cases s.flagN <;> cases s.flagH <;> cases s.flagC <;> rfl

/-- A byte written to F reads back without its low nibble (R33). -/
theorem State.fByte_setFByte (s : State) (v : Byte) : (s.setFByte v).fByte = v &&& 0xF0 := by
  have key : ∀ v : Byte, (BitVec.ofBool (v.getLsbD 7) ++ BitVec.ofBool (v.getLsbD 6) ++ BitVec.ofBool (v.getLsbD 5) ++
      BitVec.ofBool (v.getLsbD 4) ++ 0#4 : BitVec 8) = v &&& 0xF0 := by decide
  exact key v

/-- A mask on a joined word is the masks of its halves on the halves. -/
theorem join_and (h l h' l' : Byte) : join h l &&& join h' l' = join (h &&& h') (l &&& l') :=
  BitVec.and_append

/-- AF reads back what was written, without the low nibble of F (R37, R33). -/
theorem State.af_setAF (s : State) (v : Word) : (s.setAF v).af = v &&& 0xFFF0 := by
  have mask : v &&& 0xFFF0 = join (hi8 v) (lo8 v) &&& join 0xFF 0xF0 := by rw [join_hi8_lo8]; rfl
  have high : hi8 v &&& 0xFF = hi8 v := BitVec.and_allOnes
  rw [mask, join_and, high, ← s.fByte_setFByte]
  rfl

/-! ### Memory at reset -/

/-- At reset every address that can be read reads 0x00 (R47). -/
theorem peek8_reset {a : Word} (h : Mapped State.reset.cfg a) : peek8 a State.reset = some 0x00 := by
  unfold peek8
  cases hs : slotOf State.reset.cfg a with
  | plain k => rfl
  | ie => rfl
  | unmapped => exact absurd h ((slotOf_eq_unmapped _ a).1 hs)

/-! ### The host's `set` and `get` -/

/-- A byte set in an 8-bit register reads back (R39). -/
theorem hostGet_setByteName (n : RegName) (v : Byte) (s : State) (h : n.width = 8) :
    hostGet n (setByteName n v s) = .w8 v := by
  cases n with
  | a | b | c | d | e | h | l => rfl
  | af | bc | de | hl | sp | pc => exact absurd h (by decide)

/-- A word set in a 16-bit register reads back, AF without its low nibble (R37 to R39). -/
theorem hostGet_setWordName (n : RegName) (v : Word) (s : State) (h : n.width = 16) :
    hostGet n (setWordName n v s) = .w16 (if n = .af then v &&& 0xFFF0 else v) := by
  cases n with
  | a | b | c | d | e | h | l => exact absurd h (by decide)
  | af => exact congrArg Value.w16 (s.af_setAF v)
  | bc => exact congrArg Value.w16 (s.getPair_setPair .bc v)
  | de => exact congrArg Value.w16 (s.getPair_setPair .de v)
  | hl => exact congrArg Value.w16 (s.getPair_setPair .hl v)
  | sp | pc => rfl

/-- A 16-bit register refuses a byte (R423). -/
theorem setByteName_of_width_ne (n : RegName) (v : Byte) (s : State) (h : 8 ≠ n.width) :
    setByteName n v s = s.raise (.invalidOperandWidth n 8) := by
  cases n with
  | a | b | c | d | e | h | l => exact absurd rfl h
  | af | bc | de | hl | sp | pc => rfl

/-- An 8-bit register refuses a word (R423). -/
theorem setWordName_of_width_ne (n : RegName) (v : Word) (s : State) (h : 16 ≠ n.width) :
    setWordName n v s = s.raise (.invalidOperandWidth n 16) := by
  cases n with
  | a | b | c | d | e | h | l => rfl
  | af | bc | de | hl | sp | pc => exact absurd rfl h

/-- A `set` of the other width raises the fault with the offered value's width (R423). -/
theorem hostSet_of_width_ne (n : RegName) (v : Value) (s : State) (h : v.width ≠ n.width) :
    hostSet n v s = s.raise (.invalidOperandWidth n v.width) := by
  cases v with
  | w8 x => exact setByteName_of_width_ne n x s h
  | w16 x => exact setWordName_of_width_ne n x s h

end Sys2Proof.Machine

namespace Sys2Proof

open Machine

/-- Settles O1: every field by its value, memory by `peek8_reset`. -/
theorem resetState : Obligations.ResetState := by
  have regs : ∀ r, State.reset.getReg r = 0x00 := fun r => by cases r <;> rfl
  exact ⟨regs, rfl, rfl, rfl, rfl, rfl, rfl, rfl, rfl, rfl, rfl, rfl, fun _ => peek8_reset, rfl⟩

/-- Settles O2: the memory at reset lists nothing. -/
theorem resetMeetsInv : Obligations.ResetMeetsInv :=
  ⟨rfl, fun _ h => absurd h List.not_mem_nil⟩

/-- Settles O29: each pair is its two halves joined, and AF's low half is F as a number. -/
theorem pairViews : Obligations.PairViews := by
  intro s
  have hjoin : ∀ h l : Byte, (join h l).toNat = 256 * h.toNat + l.toNat := fun h l => by
    rw [join_toNat, Nat.mul_comm]
  refine ⟨hjoin s.b s.c, hjoin s.d s.e, hjoin s.h s.l, ?_⟩
  have haf : s.af.toNat = 256 * s.a.toNat + s.fByte.toNat := hjoin s.a s.fByte
  rw [haf, s.fByte_toNat]
  omega

/-- Settles O30: a register of the value's width takes it, and one of the other width raises its fault. -/
theorem hostSetThenGet : Obligations.HostSetThenGet :=
  ⟨hostGet_setByteName, hostGet_setWordName, fun n v s hlive hw =>
    (hostSet_of_width_ne n v s hw).trans (State.raise_of_running hlive _)⟩

end Sys2Proof
end

section
/-! SUPPORT. What a term runs as, and what a step runs: the escape byte's row through `Instr.core`, and a step by its
stages. -/

namespace Sys2Proof

open Machine Host

/-! ### The escape byte's row stands for the escape table's -/

/-- The escape byte's row runs the escape table's row for its `op2` (R406). -/
theorem exec_prefixCB (op2 : Byte) (s : State) : exec (.prefixCB op2) s = exec (escapeTable op2) s := by
  show runPrefixCB s.hl op2 s = _
  simp only [runPrefixCB, escapeTable]
  generalize r8OfCode (op2.toNat % 8) = r
  generalize op2.toNat / 64 = quarter
  cases r with
  | reg r =>
    rcases quarter with _ | _ | _ | _
    · exact (exec_rotInstr_reg s _ r).symm
    · exact (exec_bitInstr_reg s _ r).symm
    · exact (exec_resInstr_reg s _ r).symm
    · exact (exec_setInstr_reg s _ r).symm
  | atHL =>
    rcases quarter with _ | _ | _ | _
    · exact (exec_rotInstr_atHL s _).symm
    · exact (exec_bitInstr_atHL s _).symm
    · exact (exec_resInstr_atHL s _).symm
    · exact (exec_setInstr_atHL s _).symm

/-- A term runs as the instruction it stands for. -/
theorem exec_core (i : Instr) (s : State) : exec i.core s = exec i s := by
  cases i with
  | prefixCB op2 => exact (exec_prefixCB op2 s).symm
  | _ => rfl

/-- The escape table holds instructions only (R126). -/
theorem escapeTable_wellFormed : ∀ op2 : Byte, (escapeTable op2).wellFormed = true := by decide

/-- A term stands for an instruction. -/
theorem core_wellFormed (i : Instr) : i.core.wellFormed = true := by
  cases i with
  | prefixCB op2 => exact escapeTable_wellFormed op2
  | _ => rfl

/-! ### The step by its stages (R150) -/

theorem step_of_faulted {s : State} {f : Fault} (h : s.run = .faulted f) : step s = .fault f := by
  simp [step, h]

theorem step_of_fetch_error {s : State} {f : Fault} (h : s.run = .running) (hd : fetchDecode s = .error f) :
    step s = settle s (.error f) := by
  simp [step, h, hd]

theorem step_of_decoded {s : State} {i : Instr} (h : s.run = .running) (hd : fetchDecode s = .ok i) :
    step s = exec i s := by
  simp [step, h, hd]

end Sys2Proof
end

section
/-! SUPPORT. What an instruction has done when it completes, read off the columns of its row and the footprint tables. -/

namespace Sys2Proof

open Machine Host

/-! ### The effect of a row -/

/-- IME after an instruction that completes (R42). -/
def Instr.imeAfter (i : Instr) (s : State) : Bool :=
  match i with
  | .di => false
  | .reti => true
  | _ => s.ime || s.imeNext

/-- IME_NEXT after an instruction that completes (R43). -/
def Instr.imeNextAfter : Instr → Bool
  | .ei => true
  | _ => false

/-- How far pc moves: the row's length, or `none` where a target is written (R40). -/
def Instr.pcMove (i : Instr) (s : State) : Option Word :=
  if i.transfers s then none else some (BitVec.ofNat 16 i.row.length)

/-- The effect from `s` to `t` that the row of an instruction and its footprint allow. -/
def RowEffect (i : Instr) (s t : State) : Prop :=
  ∃ n, i.cost s = some n ∧
    BodyEffect s t (i.pcMove s) n i.regsWritten i.writesSP (i.storeAddrs s) i.row.z i.row.n i.row.h i.row.c
      (i.imeAfter s) i.imeNextAfter

/-- The row's effect from a body's, where the three columns that may depend on a condition are as the body has them. -/
theorem RowEffect.intro {i : Instr} {s t : State} {len : Option Word} {n : Nat} {stores : List Word}
    (hcost : i.cost s = some n) (hlen : i.pcMove s = len) (hstores : i.storeAddrs s = stores)
    (e : BodyEffect s t len n i.regsWritten i.writesSP stores i.row.z i.row.n i.row.h i.row.c
      (i.imeAfter s) i.imeNextAfter) :
    RowEffect i s t := by
  subst hlen hstores
  exact ⟨n, hcost, e⟩

/-- A body that leaves SP alone is within a footprint that has SP. -/
theorem Machine.BodyEffect.widenSP {s t : State} {len cost regs stores z n h c ime imn}
    (e : BodyEffect s t len cost regs false stores z n h c ime imn) :
    BodyEffect s t len cost regs true stores z n h c ime imn :=
  { e with sp := fun h => nomatch h }

/-! ### One rule per shape of an instruction -/

variable {i : Instr} {s t : State} {P : Prop}

/-- What holds after the body holds after the instruction, unless it faults. -/
theorem exec_instr_cases {n : Nat} {body : State → Except Fault State} (hi : exec i s = instr n body s)
    (hP : body (charged n s) = .ok t → P) (h : exec i s = .next t) (hn : 0 < n := by decide) :
    P ∨ ∃ f, t = s.raise f := by
  rw [hi, instr_next, charge_eq_charged hn] at h
  exact h.imp hP fun ⟨f, _, ht⟩ => ⟨f, ht⟩

/-- The same for a conditional instruction, with what each branch knows of its condition. -/
theorem exec_instrIf_cases {b : Bool} {m n : Nat} {taken notTaken : State → Except Fault State}
    (hi : exec i s = instrIf b m n taken notTaken s)
    (hT : b = true → taken (charged m s) = .ok t → P) (hF : ¬ b = true → notTaken (charged n s) = .ok t → P)
    (h : exec i s = .next t) (hm : 0 < m := by decide) (hn : 0 < n := by decide) : P ∨ ∃ f, t = s.raise f := by
  cases b with
  | true => exact exec_instr_cases hi (hT rfl) h hm
  | false => exact exec_instr_cases hi (hF (by decide)) h hn

/-- A row that faults at decode only raises its fault. -/
theorem exec_error_cases {f : Fault} (hi : exec i s = settle s (.error f)) (h : exec i s = .next t) :
    P ∨ ∃ f, t = s.raise f :=
  .inr ⟨f, (Outcome.next.inj (hi.symm.trans h)).symm⟩

/-! ### Every row -/

/-- Where an instruction gives a next state, it has had its row's effect, or it has faulted and only raised its fault. -/
theorem exec_rowEffect_of_wellFormed (hw : i.wellFormed = true) (h : exec i s = .next t) :
    RowEffect i s t ∨ ∃ f, t = s.raise f := by
  cases i using Instr.byForm with
  | ld dst r =>
    cases dst with
    | reg dst =>
      cases r with
      | reg r =>
        exact exec_instr_cases (exec_ldInstr_reg_reg s dst r)
          (fun hb => by cases dst <;> cases r <;> exact .intro rfl rfl rfl (loadR8_effect hb)) h
      | atHL =>
        exact exec_instr_cases (exec_ldInstr_reg_atHL s dst)
          (fun hb => by cases dst <;> exact .intro rfl rfl rfl (loadR8_effect hb)) h
    | atHL =>
      cases r with
      | reg r =>
        exact exec_instr_cases (exec_ldInstr_atHL_reg s r)
          (fun hb => by cases r <;> exact .intro rfl rfl rfl (loadR8_effect hb)) h
      | atHL => exact exec_error_cases (exec_ldInstr_atHL_atHL s) h
  | ldImm dst n =>
    cases dst with
    | reg dst =>
      exact exec_instr_cases (exec_ldImmInstr_reg s dst n)
        (fun hb => by cases dst <;> exact .intro rfl rfl rfl (loadImm_effect hb)) h
    | atHL =>
      exact exec_instr_cases (exec_ldImmInstr_atHL s n) (fun hb => .intro rfl rfl rfl (loadImm_effect hb)) h
  | inc r =>
    cases r with
    | reg r =>
      exact exec_instr_cases (exec_incInstr_reg s r)
        (fun hb => by cases r <;> exact .intro rfl rfl rfl (incR8_effect hb)) h
    | atHL =>
      exact exec_instr_cases (exec_incInstr_atHL s)
        (fun hb => .intro rfl rfl rfl (incR8_effect hb)) h
  | dec r =>
    cases r with
    | reg r =>
      exact exec_instr_cases (exec_decInstr_reg s r)
        (fun hb => by cases r <;> exact .intro rfl rfl rfl (decR8_effect hb)) h
    | atHL =>
      exact exec_instr_cases (exec_decInstr_atHL s)
        (fun hb => .intro rfl rfl rfl (decR8_effect hb)) h
  | alu op r =>
    cases r with
    | reg r =>
      exact exec_instr_cases (exec_aluInstr_reg s op r)
        (fun hb => by cases op <;> cases r <;> exact .intro rfl rfl rfl (aluR8_effect hb)) h
    | atHL =>
      exact exec_instr_cases (exec_aluInstr_atHL s op)
        (fun hb => by cases op <;> exact .intro rfl rfl rfl (aluR8_effect hb)) h
  | aluImm op n =>
    exact exec_instr_cases (exec_aluImmInstr s op n)
      (fun hb => by cases op <;> exact .intro rfl rfl rfl (aluImm_effect hb)) h
  | ldPair p nn =>
    exact exec_instr_cases (exec_ldPairInstr s p nn)
      (fun hb => by cases hb; cases p <;> exact .intro rfl rfl rfl setPair_effect) h
  | addHl p =>
    exact exec_instr_cases (exec_addHlInstr s p)
      (fun hb => by cases p <;> exact .intro rfl rfl rfl (addHL_effect hb)) h
  | incPair p =>
    exact exec_instr_cases (exec_incPairInstr s p)
      (fun hb => by cases hb; cases p <;> exact .intro rfl rfl rfl setPair_effect) h
  | decPair p =>
    exact exec_instr_cases (exec_decPairInstr s p)
      (fun hb => by cases hb; cases p <;> exact .intro rfl rfl rfl setPair_effect) h
  | pop q =>
    exact exec_instr_cases (exec_popInstr s q)
      (fun hb => by cases q <;> exact .intro rfl rfl rfl (popPair_effect hb _ rfl)) h
  | push q =>
    exact exec_instr_cases (exec_pushInstr s q)
      (fun hb => by cases q <;> exact .intro rfl rfl rfl (pushPair_effect hb)) h
  | jrCc cc e =>
    exact exec_instrIf_cases (exec_jrCcInstr s cc e)
      (fun hc hb => by cases cc <;> exact .intro (if_pos hc) (if_pos hc) rfl (jumpRel_effect hb))
      (fun hc hb => by cases cc <;> exact .intro (if_neg hc) (if_neg hc) rfl (skip_effect hb)) h
  | retCc cc =>
    exact exec_instrIf_cases (exec_retCcInstr s cc)
      (fun hc hb => by cases cc <;> exact .intro (if_pos hc) (if_pos hc) rfl (returnBody_effect hb))
      (fun hc hb => by cases cc <;> exact .intro (if_neg hc) (if_neg hc) rfl (skip_effect hb).widenSP) h
  | jpCc cc nn =>
    exact exec_instrIf_cases (exec_jpCcInstr s cc nn)
      (fun hc hb => by cases cc <;> exact .intro (if_pos hc) (if_pos hc) rfl (jumpTo_effect hb))
      (fun hc hb => by cases cc <;> exact .intro (if_neg hc) (if_neg hc) rfl (skip_effect hb)) h
  | callCc cc nn =>
    exact exec_instrIf_cases (exec_callCcInstr s cc nn)
      (fun hc hb => by cases cc <;> exact .intro (if_pos hc) (if_pos hc) (if_pos hc) (callTo_effect hb))
      (fun hc hb => by cases cc <;> exact .intro (if_neg hc) (if_neg hc) (if_neg hc) (skip_effect hb).widenSP) h
  | rst v =>
    exact exec_instr_cases (exec_rstInstr s v)
      (fun hb => by cases v <;> exact .intro rfl rfl rfl (restart_effect hb)) h
  | rot op r =>
    cases r with
    | reg r =>
      exact exec_instr_cases (exec_rotInstr_reg s op r)
        (fun hb => by cases op <;> cases r <;> exact .intro rfl rfl rfl (rotR8_effect hb _ rfl)) h
    | atHL =>
      exact exec_instr_cases (exec_rotInstr_atHL s op)
        (fun hb => by cases op <;> exact .intro rfl rfl rfl (rotR8_effect hb _ rfl)) h
  | bit b r =>
    cases r with
    | reg r =>
      exact exec_instr_cases (exec_bitInstr_reg s b r)
        (fun hb => by cases b <;> cases r <;> exact .intro rfl rfl rfl (bitR8_effect hb)) h
    | atHL =>
      exact exec_instr_cases (exec_bitInstr_atHL s b)
        (fun hb => by cases b <;> exact .intro rfl rfl rfl (bitR8_effect hb)) h
  | res b r =>
    cases r with
    | reg r =>
      exact exec_instr_cases (exec_resInstr_reg s b r)
        (fun hb => by cases b <;> cases r <;> exact .intro rfl rfl rfl (resR8_effect hb)) h
    | atHL =>
      exact exec_instr_cases (exec_resInstr_atHL s b)
        (fun hb => by cases b <;> exact .intro rfl rfl rfl (resR8_effect hb)) h
  | set b r =>
    cases r with
    | reg r =>
      exact exec_instr_cases (exec_setInstr_reg s b r)
        (fun hb => by cases b <;> cases r <;> exact .intro rfl rfl rfl (setBitR8_effect hb)) h
    | atHL =>
      exact exec_instr_cases (exec_setInstr_atHL s b)
        (fun hb => by cases b <;> exact .intro rfl rfl rfl (setBitR8_effect hb)) h
  | nop => exact exec_instr_cases rfl (fun hb => .intro rfl rfl rfl (nopBody_effect hb)) h
  | di => exact exec_instr_cases rfl (fun hb => .intro rfl rfl rfl (diBody_effect hb)) h
  | ei => exact exec_instr_cases rfl (fun hb => .intro rfl rfl rfl (eiBody_effect hb)) h
  | rlca | rrca | rla | rra => exact exec_instr_cases rfl (fun hb => .intro rfl rfl rfl (rotA_effect hb)) h
  | daa => exact exec_instr_cases rfl (fun hb => .intro rfl rfl rfl (daaBody_effect hb)) h
  | cpl => exact exec_instr_cases rfl (fun hb => .intro rfl rfl rfl (cplBody_effect hb)) h
  | scf => exact exec_instr_cases rfl (fun hb => .intro rfl rfl rfl (scfBody_effect hb)) h
  | ccf => exact exec_instr_cases rfl (fun hb => .intro rfl rfl rfl (ccfBody_effect hb)) h
  | ldAAtBC | ldAAtDE | ldhAAtImm n | ldAAtC | ldAAtImm16 nn =>
    exact exec_instr_cases rfl (fun hb => .intro rfl rfl rfl (loadA_effect hb)) h
  | ldAtBCA | ldAtDEA | ldhAtImmA n | ldAtCA | ldAtImm16A nn =>
    exact exec_instr_cases rfl (fun hb => .intro rfl rfl rfl (storeA_effect hb)) h
  | ldAAtHLInc | ldAAtHLDec => exact exec_instr_cases rfl (fun hb => .intro rfl rfl rfl (loadAStep_effect hb)) h
  | ldAtHLIncA | ldAtHLDecA => exact exec_instr_cases rfl (fun hb => .intro rfl rfl rfl (storeAStep_effect hb)) h
  | ldAtImm16SP nn => exact exec_instr_cases rfl (fun hb => .intro rfl rfl rfl (storeSP_effect hb)) h
  | ldSPHL => exact exec_instr_cases rfl (fun hb => .intro rfl rfl rfl (loadSPHL_effect hb)) h
  | ldHLSPDisp e => exact exec_instr_cases rfl (fun hb => .intro rfl rfl rfl (loadHLSPDisp_effect hb)) h
  | jrDisp e => exact exec_instr_cases rfl (fun hb => .intro rfl rfl rfl (jumpRel_effect hb)) h
  | jpImm16 nn => exact exec_instr_cases rfl (fun hb => .intro rfl rfl rfl (jumpTo_effect hb)) h
  | jpAtHL => exact exec_instr_cases rfl (fun hb => .intro rfl rfl rfl (jumpHL_effect hb)) h
  | callImm16 nn => exact exec_instr_cases rfl (fun hb => .intro rfl rfl rfl (callTo_effect hb)) h
  | ret => exact exec_instr_cases rfl (fun hb => .intro rfl rfl rfl (returnBody_effect hb)) h
  | reti => exact exec_instr_cases rfl (fun hb => .intro rfl rfl rfl (retiBody_effect hb)) h
  | stop | addSPDisp | unusedD3 | unusedDB | unusedDD | unusedE3 | unusedE4 | unusedEB | unusedEC | unusedED | unusedF4
  | unusedFC | unusedFD => exact exec_error_cases rfl h
  | prefixCB => exact nomatch hw

/-- Where `exec` gives a next state, the instruction the term stands for has had its row's effect, or it has faulted. -/
theorem exec_rowEffect (h : exec i s = .next t) : RowEffect i.core s t ∨ ∃ f, t = s.raise f :=
  exec_rowEffect_of_wellFormed (core_wellFormed i) ((exec_core i s).trans h)

/-- An instruction that completes has had its row's effect: a state with a fault raised is not live. -/
theorem Completes.rowEffect (h : Completes i s t) : RowEffect i.core s t := by
  obtain ⟨-, hexec, hlive⟩ := h
  rcases exec_rowEffect hexec with he | ⟨f, rfl⟩
  · exact he
  · exact absurd hlive (s.raise_run_ne f)

/-- Settles O19: a row that transfers nothing moves pc by its length. -/
theorem pcAdvancesByLength : Obligations.PcAdvancesByLength := by
  intro i s t h htransfers
  obtain ⟨n, -, e⟩ := h.rowEffect
  have hmove : i.core.pcMove s = some (BitVec.ofNat 16 i.core.row.length) := by simp [Instr.pcMove, htransfers]
  exact e.pc _ hmove

/-- Settles O20: the four flag characters of the row's effect. -/
theorem flagFrame : Obligations.FlagFrame := by
  intro i s t h
  obtain ⟨n, -, e⟩ := h.rowEffect
  exact ⟨e.fz, e.fn, e.fh, e.fc⟩

end Sys2Proof
end

section
/-! SUPPORT. IME and CYCLES are written and never read (10_state.md R42, R44): a state with other values in the two runs
alike. -/

namespace Sys2Proof

open Machine Host

/-- The state with other values in IME and CYCLES. -/
def Machine.State.withClock (s : State) (b : Bool) (n : Nat) : State := { s with ime := b, cycles := n }

/-- A body reads neither IME nor CYCLES: with other values there it answers the same, up to the two. -/
def ClockBlind (body : State → Except Fault State) : Prop :=
  ∀ s b n, ∃ b' n', body (s.withClock b n) = (body s).map (·.withClock b' n')

/-- The same of a whole instruction or step. -/
def RunsClockBlind (run : State → Outcome State Fault Refusal) : Prop :=
  ∀ s t b n, run s = .next t → ∃ b' n', run (s.withClock b n) = .next (t.withClock b' n')

/-! ### Sequencing -/

/-- A body that leaves the two fields as they are. -/
theorem ClockBlind.same {body : State → Except Fault State}
    (h : ∀ s b n, body (s.withClock b n) = (body s).map (·.withClock b n) := by intros; rfl) : ClockBlind body :=
  fun s b n => ⟨b, n, h s b n⟩

/-- A body that reads a value first, by a read that does not see the two fields. -/
theorem ClockBlind.read {α : Type} {rd : State → Except Fault α} {k : α → State → Except Fault State}
    (hk : ∀ v, ClockBlind (k v)) (hrd : ∀ s b n, rd (s.withClock b n) = rd s := by intros; rfl) :
    ClockBlind fun s => rd s >>= fun v => k v s := by
  intro s b n
  dsimp only
  rw [hrd]
  cases rd s with
  | error x => exact ⟨b, n, rfl⟩
  | ok v => exact hk v s b n

/-- A body in two parts, the second of which may also use what the first started from. -/
theorem ClockBlind.bind {f : State → Except Fault State} {g : State → State → Except Fault State}
    (hf : ClockBlind f) (hg : ∀ s, ClockBlind (g s)) (hc : ∀ s b n, g (s.withClock b n) = g s := by intros; rfl) :
    ClockBlind fun s => f s >>= g s := by
  intro s b n
  obtain ⟨b', n', h⟩ := hf s b n
  dsimp only
  rw [h, hc]
  cases f s with
  | error x => exact ⟨b, n, rfl⟩
  | ok u => exact hg s u b' n'

/-! ### The bus, operands and the stack -/

theorem poke8_withClock (a : Word) (v : Byte) (s : State) (b : Bool) (n : Nat) :
    poke8 a v (s.withClock b n) = (poke8 a v s).map (·.withClock b n) := by
  have hcfg : (s.withClock b n).cfg = s.cfg := rfl
  unfold poke8
  rw [hcfg]
  cases slotOf s.cfg a <;> rfl

theorem busWrite8_clockBlind (a : Word) (v : Byte) : ClockBlind (busWrite8 a v) := by
  refine .same fun s b n => ?_
  unfold busWrite8
  rw [poke8_withClock]
  cases poke8 a v s <;> rfl

theorem setR8_clockBlind (p : Place) (v : Byte) : ClockBlind (setR8 p v) := by
  cases p with
  | reg r => exact .same fun _ _ _ => by cases r <;> rfl
  | mem a => exact busWrite8_clockBlind a v

theorem getR8_withClock (p : Place) (s : State) (b : Bool) (n : Nat) : getR8 p (s.withClock b n) = getR8 p s := by
  cases p with
  | reg r => cases r <;> rfl
  | mem a => rfl

/-- A 16-bit write is two byte writes in sequence. -/
theorem memWrite16_eq_bind (a v : Word) :
    memWrite16 a v = fun s => busWrite8 a (lo8 v) s >>= busWrite8 (a + 1) (hi8 v) := by
  funext s
  unfold memWrite16
  cases busWrite8 a (lo8 v) s <;> rfl

/-- A push is two byte writes in sequence, SP dropping before each. -/
theorem push16_eq_bind (v : Word) :
    push16 v = fun s => busWrite8 (s.sp - 1) (hi8 v) (s.setSP (s.sp - 1)) >>=
      fun t => busWrite8 (t.sp - 1) (lo8 v) (t.setSP (t.sp - 1)) := by
  funext s
  unfold push16
  cases busWrite8 (s.sp - 1) (hi8 v) (s.setSP (s.sp - 1)) <;> rfl

theorem memWrite16_clockBlind (a v : Word) : ClockBlind (memWrite16 a v) := by
  rw [memWrite16_eq_bind]
  exact .bind (busWrite8_clockBlind a (lo8 v)) fun _ => busWrite8_clockBlind (a + 1) (hi8 v)

theorem push16_clockBlind (v : Word) : ClockBlind (push16 v) := by
  rw [push16_eq_bind]
  exact .bind (fun s => busWrite8_clockBlind (s.sp - 1) (hi8 v) (s.setSP (s.sp - 1)))
    fun _ t => busWrite8_clockBlind (t.sp - 1) (lo8 v) (t.setSP (t.sp - 1))

theorem pop16_withClock (s : State) (b : Bool) (n : Nat) :
    pop16 (s.withClock b n) = (pop16 s).map fun p => (p.1, p.2.withClock b n) := by
  have hlo : busRead8 (s.withClock b n).sp (s.withClock b n) = busRead8 s.sp s := rfl
  have hhi : busRead8 ((s.withClock b n).sp + 1) ((s.withClock b n).setSP ((s.withClock b n).sp + 1)) =
      busRead8 (s.sp + 1) (s.setSP (s.sp + 1)) := rfl
  unfold pop16
  rw [hlo, hhi]
  cases busRead8 s.sp s with
  | error x => rfl
  | ok lo => cases busRead8 (s.sp + 1) (s.setSP (s.sp + 1)) <;> rfl

/-- A body that pops first. -/
theorem ClockBlind.pop {k : Word → State → Except Fault State} (hk : ∀ v, ClockBlind (k v)) :
    ClockBlind fun s => pop16 s >>= fun p => k p.1 p.2 := by
  intro s b n
  dsimp only
  rw [pop16_withClock]
  cases pop16 s with
  | error x => exact ⟨b, n, rfl⟩
  | ok p => exact hk p.1 p.2 b n

/-! ### The shared bodies -/

theorem diBody_clockBlind : ClockBlind diBody :=
  fun _ _ n => ⟨false, n, rfl⟩

theorem loadPairImm_clockBlind (p : Pair) (nn : Word) : ClockBlind (loadPairImm p nn) :=
  .same fun _ _ _ => by cases p <;> rfl

theorem incPair_clockBlind (p : Pair) : ClockBlind (incPair p) :=
  .same fun _ _ _ => by cases p <;> rfl

theorem decPair_clockBlind (p : Pair) : ClockBlind (decPair p) :=
  .same fun _ _ _ => by cases p <;> rfl

theorem addHL_clockBlind (p : Pair) : ClockBlind (addHL p) :=
  .same fun _ _ _ => by cases p <;> rfl

theorem aluImm_clockBlind (op : AluOp) (x : Byte) : ClockBlind (aluImm op x) :=
  .same fun _ _ _ => by cases op <;> rfl

theorem loadA_clockBlind (a k : Word) : ClockBlind (loadA a k) :=
  .read fun _ => .same

theorem loadAStep_clockBlind (move : Word → Word) (a : Word) : ClockBlind (loadAStep move a) :=
  .read fun _ => .same

theorem aluR8_clockBlind (op : AluOp) (p : Place) : ClockBlind (aluR8 op p) :=
  .read (fun _ => .same fun _ _ _ => by cases op <;> rfl) (getR8_withClock p)

theorem bitR8_clockBlind (i : Idx3) (p : Place) : ClockBlind (bitR8 i p) :=
  .read (fun _ => .same) (getR8_withClock p)

theorem loadR8_clockBlind (d p : Place) : ClockBlind (loadR8 d p) :=
  .read (fun v => .bind (setR8_clockBlind d v) fun _ => .same) (getR8_withClock p)

theorem loadImm_clockBlind (d : Place) (x : Byte) : ClockBlind (loadImm d x) :=
  .bind (setR8_clockBlind d x) fun _ => .same

theorem incR8_clockBlind (p : Place) : ClockBlind (incR8 p) :=
  .read (fun _ => .bind (setR8_clockBlind p _) fun _ => .same) (getR8_withClock p)

theorem decR8_clockBlind (p : Place) : ClockBlind (decR8 p) :=
  .read (fun _ => .bind (setR8_clockBlind p _) fun _ => .same) (getR8_withClock p)

theorem rotR8_clockBlind (op : RotOp) (p : Place) : ClockBlind (rotR8 op p) :=
  .read (fun v => .bind (fun s => setR8_clockBlind p (rotEval op v s.flagC).1 s) fun _ => .same)
    (getR8_withClock p)

theorem resR8_clockBlind (i : Idx3) (p : Place) : ClockBlind (resR8 i p) :=
  .read (fun _ => .bind (setR8_clockBlind p _) fun _ => .same) (getR8_withClock p)

theorem setBitR8_clockBlind (i : Idx3) (p : Place) : ClockBlind (setBitR8 i p) :=
  .read (fun _ => .bind (setR8_clockBlind p _) fun _ => .same) (getR8_withClock p)

theorem storeA_clockBlind (a k : Word) : ClockBlind (storeA a k) :=
  .bind (fun s => busWrite8_clockBlind a s.a s) fun _ => .same

theorem storeAStep_clockBlind (move : Word → Word) (a : Word) : ClockBlind (storeAStep move a) :=
  .bind (fun s => busWrite8_clockBlind a s.a s) fun _ => .same

theorem storeSP_clockBlind (a : Word) : ClockBlind (storeSP a) :=
  .bind (fun s => memWrite16_clockBlind a s.sp s) fun _ => .same

theorem pushPair_clockBlind (q : StackPair) : ClockBlind (pushPair q) :=
  .bind (fun s b n => by cases q <;> exact push16_clockBlind _ s b n) fun _ => .same

theorem callTo_clockBlind (nn : Word) : ClockBlind (callTo nn) :=
  .bind (fun s => push16_clockBlind (s.pc + 3) s) fun _ => .same

theorem restart_clockBlind (v : Idx3) : ClockBlind (restart v) :=
  .bind (fun s => push16_clockBlind (s.pc + 1) s) fun _ => .same

theorem popPair_clockBlind (q : StackPair) : ClockBlind (popPair q) :=
  .pop (k := fun v t => .ok ((t.setStackPair q v).advance 1)) fun _ => .same fun _ _ _ => by cases q <;> rfl

theorem returnBody_clockBlind : ClockBlind returnBody :=
  .pop (k := fun v t => .ok (t.setPC v)) fun _ => .same

theorem retiBody_clockBlind : ClockBlind retiBody :=
  .pop (k := fun v t => .ok ((t.setPC v).setIme true)) fun _ _ _ n => ⟨true, n, rfl⟩

/-! ### The shapes of an instruction -/

theorem charge_withClock (c : Nat) (s : State) (b : Bool) (n : Nat) :
    ∃ b' n', (s.withClock b n).charge c = (s.charge c).withClock b' n' := by
  cases c with
  | zero => exact ⟨b, n, rfl⟩
  | succ c =>
    rw [State.charge_succ, State.charge_succ]
    exact ⟨b || s.imeNext, n + (c + 1), rfl⟩

theorem raise_withClock (s : State) (f : Fault) (b : Bool) (n : Nat) :
    (s.withClock b n).raise f = (s.raise f).withClock b n := by
  cases hr : s.run with
  | running => rw [State.raise_of_running hr, State.raise_of_running (s := s.withClock b n) hr]; rfl
  | faulted g => rw [State.raise_of_faulted hr, State.raise_of_faulted (s := s.withClock b n) hr]

/-- An instruction whose body is blind to the two fields, its address resolved in the state it starts from. -/
theorem RunsClockBlind.instr {run : State → Outcome State Fault Refusal} {c : Nat}
    {body : State → State → Except Fault State}
    (hi : ∀ s, run s = Machine.instr c (body s) s) (hb : ∀ s, ClockBlind (body s))
    (hc : ∀ s b n, body (s.withClock b n) = body s := by intros; rfl) : RunsClockBlind run := by
  intro s t b n h
  rw [hi, instr_next] at h
  obtain ⟨b₁, n₁, hcharge⟩ := charge_withClock c s b n
  obtain ⟨b₂, n₂, hbody⟩ := hb s (s.charge c) b₁ n₁
  rw [hi, hc]
  rcases h with h | ⟨f, h, rfl⟩
  · exact ⟨b₂, n₂, instr_of_ok (by rw [hcharge, hbody, h]; rfl)⟩
  · exact ⟨b, n, by rw [instr_of_error (f := f) (by rw [hcharge, hbody, h]; rfl), raise_withClock]⟩

theorem instr_clockBlind (c : Nat) {body : State → Except Fault State} (hb : ClockBlind body) :
    RunsClockBlind (Machine.instr c body) :=
  .instr (fun _ => rfl) fun _ => hb

/-- A conditional instruction: the two fields are no part of its condition. -/
theorem RunsClockBlind.instrIf {run : State → Outcome State Fault Refusal} {cc : Cond} {m n : Nat}
    {taken notTaken : State → Except Fault State} (hi : ∀ s, run s = Machine.instrIf (s.cond cc) m n taken notTaken s)
    (hT : ClockBlind taken) (hF : ClockBlind notTaken) : RunsClockBlind run := by
  intro s t b k h
  have hc : (s.withClock b k).cond cc = s.cond cc := by cases cc <;> rfl
  rw [hi] at h ⊢
  rw [hc]
  cases hcc : s.cond cc <;> rw [hcc] at h
  · exact instr_clockBlind n hF s t b k h
  · exact instr_clockBlind m hT s t b k h

/-- A fault raised, the same whatever the two fields hold. -/
theorem RunsClockBlind.error {run : State → Outcome State Fault Refusal} {f : State → Fault}
    (hi : ∀ s, run s = settle s (.error (f s))) (hf : ∀ s b n, f (s.withClock b n) = f s := by intros; rfl) :
    RunsClockBlind run := by
  intro s t b n h
  rw [hi] at h
  cases h
  exact ⟨b, n, by rw [hi, hf, settle_error, raise_withClock]⟩

/-! ### Every row, and the step -/

/-- No instruction reads IME or CYCLES. -/
theorem exec_clockBlind_of_wellFormed {i : Instr} (hw : i.wellFormed = true) : RunsClockBlind (exec i) := by
  cases i using Instr.byForm with
  | ld dst r =>
    cases dst with
    | reg dst =>
      cases r with
      | reg r => exact .instr (fun s => exec_ldInstr_reg_reg s dst r) fun _ => loadR8_clockBlind _ _
      | atHL => exact .instr (fun s => exec_ldInstr_reg_atHL s dst) fun _ => loadR8_clockBlind _ _
    | atHL =>
      cases r with
      | reg r => exact .instr (fun s => exec_ldInstr_atHL_reg s r) fun _ => loadR8_clockBlind _ _
      | atHL => exact .error exec_ldInstr_atHL_atHL
  | ldImm dst n =>
    cases dst with
    | reg dst => exact .instr (fun s => exec_ldImmInstr_reg s dst n) fun _ => loadImm_clockBlind _ _
    | atHL => exact .instr (fun s => exec_ldImmInstr_atHL s n) fun _ => loadImm_clockBlind _ _
  | inc r =>
    cases r with
    | reg r => exact .instr (fun s => exec_incInstr_reg s r) fun _ => incR8_clockBlind _
    | atHL => exact .instr (fun s => exec_incInstr_atHL s) fun _ => incR8_clockBlind _
  | dec r =>
    cases r with
    | reg r => exact .instr (fun s => exec_decInstr_reg s r) fun _ => decR8_clockBlind _
    | atHL => exact .instr (fun s => exec_decInstr_atHL s) fun _ => decR8_clockBlind _
  | alu op r =>
    cases r with
    | reg r => exact .instr (fun s => exec_aluInstr_reg s op r) fun _ => aluR8_clockBlind _ _
    | atHL => exact .instr (fun s => exec_aluInstr_atHL s op) fun _ => aluR8_clockBlind _ _
  | aluImm op n => exact .instr (fun s => exec_aluImmInstr s op n) fun _ => aluImm_clockBlind op n
  | ldPair p nn => exact .instr (fun s => exec_ldPairInstr s p nn) fun _ => loadPairImm_clockBlind p nn
  | addHl p => exact .instr (fun s => exec_addHlInstr s p) fun _ => addHL_clockBlind p
  | incPair p => exact .instr (fun s => exec_incPairInstr s p) fun _ => incPair_clockBlind p
  | decPair p => exact .instr (fun s => exec_decPairInstr s p) fun _ => decPair_clockBlind p
  | pop q => exact .instr (fun s => exec_popInstr s q) fun _ => popPair_clockBlind q
  | push q => exact .instr (fun s => exec_pushInstr s q) fun _ => pushPair_clockBlind q
  | jrCc cc e => exact .instrIf (fun s => exec_jrCcInstr s cc e) .same .same
  | retCc cc => exact .instrIf (fun s => exec_retCcInstr s cc) returnBody_clockBlind .same
  | jpCc cc nn => exact .instrIf (fun s => exec_jpCcInstr s cc nn) .same .same
  | callCc cc nn => exact .instrIf (fun s => exec_callCcInstr s cc nn) (callTo_clockBlind nn) .same
  | rst v => exact .instr (fun s => exec_rstInstr s v) fun _ => restart_clockBlind v
  | rot op r =>
    cases r with
    | reg r => exact .instr (fun s => exec_rotInstr_reg s op r) fun _ => rotR8_clockBlind _ _
    | atHL => exact .instr (fun s => exec_rotInstr_atHL s op) fun _ => rotR8_clockBlind _ _
  | bit b r =>
    cases r with
    | reg r => exact .instr (fun s => exec_bitInstr_reg s b r) fun _ => bitR8_clockBlind _ _
    | atHL => exact .instr (fun s => exec_bitInstr_atHL s b) fun _ => bitR8_clockBlind _ _
  | res b r =>
    cases r with
    | reg r => exact .instr (fun s => exec_resInstr_reg s b r) fun _ => resR8_clockBlind _ _
    | atHL => exact .instr (fun s => exec_resInstr_atHL s b) fun _ => resR8_clockBlind _ _
  | set b r =>
    cases r with
    | reg r => exact .instr (fun s => exec_setInstr_reg s b r) fun _ => setBitR8_clockBlind _ _
    | atHL => exact .instr (fun s => exec_setInstr_atHL s b) fun _ => setBitR8_clockBlind _ _
  | nop => exact instr_clockBlind 4 (body := nopBody) .same
  | ei => exact instr_clockBlind 4 (body := eiBody) .same
  | rlca => exact instr_clockBlind 4 (body := (rotA .rlc)) .same
  | rrca => exact instr_clockBlind 4 (body := (rotA .rrc)) .same
  | rla => exact instr_clockBlind 4 (body := (rotA .rl)) .same
  | rra => exact instr_clockBlind 4 (body := (rotA .rr)) .same
  | daa => exact instr_clockBlind 4 (body := daaBody) .same
  | cpl => exact instr_clockBlind 4 (body := cplBody) .same
  | scf => exact instr_clockBlind 4 (body := scfBody) .same
  | ccf => exact instr_clockBlind 4 (body := ccfBody) .same
  | ldSPHL => exact instr_clockBlind 8 (body := loadSPHL) .same
  | ldHLSPDisp e => exact instr_clockBlind 12 (body := (loadHLSPDisp e)) .same
  | jrDisp e => exact instr_clockBlind 12 (body := (jumpRel e)) .same
  | jpImm16 nn => exact instr_clockBlind 16 (body := (jumpTo nn)) .same
  | jpAtHL => exact instr_clockBlind 4 (body := jumpHL) .same
  | di => exact .instr (fun _ => rfl) fun _ => diBody_clockBlind
  | ldAAtBC | ldAAtDE | ldhAAtImm n | ldAAtC | ldAAtImm16 nn => exact .instr (fun _ => rfl) fun _ => loadA_clockBlind _ _
  | ldAtBCA | ldAtDEA | ldhAtImmA n | ldAtCA | ldAtImm16A nn => exact .instr (fun _ => rfl) fun _ => storeA_clockBlind _ _
  | ldAAtHLInc | ldAAtHLDec => exact .instr (fun _ => rfl) fun _ => loadAStep_clockBlind _ _
  | ldAtHLIncA | ldAtHLDecA => exact .instr (fun _ => rfl) fun _ => storeAStep_clockBlind _ _
  | ldAtImm16SP nn => exact .instr (fun _ => rfl) fun _ => storeSP_clockBlind _
  | callImm16 nn => exact .instr (fun _ => rfl) fun _ => callTo_clockBlind _
  | ret => exact .instr (fun _ => rfl) fun _ => returnBody_clockBlind
  | reti => exact .instr (fun _ => rfl) fun _ => retiBody_clockBlind
  | stop | addSPDisp | unusedD3 | unusedDB | unusedDD | unusedE3 | unusedE4 | unusedEB | unusedEC | unusedED | unusedF4
  | unusedFC | unusedFD => exact .error fun _ => rfl
  | prefixCB => exact nomatch hw

theorem exec_clockBlind (i : Instr) : RunsClockBlind (exec i) := by
  have hcore : exec i = exec i.core := funext fun s => (exec_core i s).symm
  rw [hcore]
  exact exec_clockBlind_of_wellFormed (core_wellFormed i)

/-- Fetch and decode read the bus and pc only. -/
theorem fetchDecode_withClock (s : State) (b : Bool) (n : Nat) : fetchDecode (s.withClock b n) = fetchDecode s := rfl

theorem step_clockBlind : RunsClockBlind step := by
  intro s t b n h
  cases hrun : s.run with
  | faulted f => exact nomatch (step_of_faulted hrun).symm.trans h
  | running =>
    have hrun' : (s.withClock b n).run = .running := hrun
    cases hd : fetchDecode s with
    | error f =>
      rw [step_of_fetch_error hrun hd] at h
      cases h
      exact ⟨b, n, by rw [step_of_fetch_error hrun' hd, settle_error, raise_withClock]⟩
    | ok i =>
      rw [step_of_decoded hrun hd] at h
      rw [step_of_decoded hrun' hd]
      exact exec_clockBlind i s t b n h

/-- Settles O23: fetch, decode, the raise of a fault and every instruction are blind to the two fields. -/
theorem imeAndCyclesAreNotRead : Obligations.ImeAndCyclesAreNotRead := step_clockBlind

end Sys2Proof
end

section
/-! SUPPORT. The memory family (20_memory.md): the region map, the byte behind an address, and what the host's wide accesses
do with two of them. -/

namespace Sys2Proof.Machine

/-! ### The region map (R71, R72) -/

/-- No two regions of the map overlap. -/
theorem Region.eq_or_disjoint (r q : Region) : r = q ∨ r.base + r.size ≤ q.base ∨ q.base + q.size ≤ r.base := by
  cases r <;> cases q <;> decide

/-- An address translates to the region it lies in, at its offset there. -/
theorem translate_of_range {a : Word} (r : Region) (hlo : r.base ≤ a.toNat) (hhi : a.toNat < r.base + r.size) :
    translate a = (r, a.toNat - r.base) := by
  have hrange := regionOf_range a
  have hr : regionOf a = r := (Region.eq_or_disjoint (regionOf a) r).resolve_right (by omega)
  simp only [translate, hr]

/-! ### The byte behind an address -/

theorem peek8_of_slotOf_plain {a : Word} {s : State} {k : Nat} (h : slotOf s.cfg a = .plain k) :
    peek8 a s = some (Memory.read s.mem k) := by simp only [peek8, h]

theorem peek8_of_slotOf_ie {a : Word} {s : State} (h : slotOf s.cfg a = .ie) :
    peek8 a s = some (if s.ie then 0x01 else 0x00) := by simp only [peek8, h]

/-- A byte can be read exactly at a mapped address (R76). -/
theorem peek8_isSome_iff_mapped {a : Word} {s : State} : (peek8 a s).isSome ↔ Mapped s.cfg a := by
  rw [← Option.ne_none_iff_isSome, ne_eq, peek8_eq_none, slotOf_eq_unmapped, not_not]

/-- A byte can be stored exactly at a mapped address (R76). -/
theorem poke8_isSome_iff_mapped {a : Word} {v : Byte} {s : State} : (poke8 a v s).isSome ↔ Mapped s.cfg a := by
  rw [poke8_isSome, peek8_isSome_iff_mapped]

/-- A store at a mapped address is accepted. -/
theorem poke8_of_mapped {a : Word} {s : State} (v : Byte) (h : Mapped s.cfg a) : ∃ t, poke8 a v s = some t :=
  Option.isSome_iff_exists.1 (poke8_isSome_iff_mapped.2 h)

theorem poke8_cfg {a : Word} {v : Byte} {s t : State} (h : poke8 a v s = some t) : t.cfg = s.cfg := by
  rw [poke8_frame h]

/-- The byte an address holds after a store there: the byte stored, or whether it is nonzero for the IE cell (R73, R74, R77). -/
theorem peek8_poke8_same {a : Word} {v : Byte} {s t : State} (hi : StorageInv s) (h : poke8 a v s = some t) :
    peek8 a t = some (if a = 0xFFFF then (if v = 0 then 0x00 else 0x01) else v) := by
  have hcfg := poke8_cfg h
  rcases poke8_eq_some h with ⟨k, hk, ht⟩ | ⟨hk, ht⟩ <;> rw [← hcfg] at hk
  · have hne : a ≠ 0xFFFF := fun ha => nomatch hk.symm.trans ((slotOf_eq_ie _ a).2 ha)
    rw [if_neg hne, peek8_of_slotOf_plain hk, ht]
    exact congrArg some (Memory.read_write_same k v hi.1)
  · rw [if_pos ((slotOf_eq_ie _ a).1 hk), peek8_of_slotOf_ie hk, ht]
    by_cases hv : v = 0 <;> simp [hv]

/-- Away from the IE cell a byte stored is the byte read back. -/
theorem peek8_poke8_of_ne {a : Word} {v : Byte} {s t : State} (hi : StorageInv s) (ha : a ≠ 0xFFFF)
    (h : poke8 a v s = some t) : peek8 a t = some v := by
  rw [peek8_poke8_same hi h, if_neg ha]

/-! ### Addresses with one storage, and addresses with two -/

theorem peek8_of_sameStorage {a b : Word} {s : State} (h : sameStorage s.cfg a b) : peek8 a s = peek8 b s := by
  simp only [peek8, slotOf_of_sameStorage h]

theorem poke8_of_sameStorage {a b : Word} {s : State} (v : Byte) (h : sameStorage s.cfg a b) :
    poke8 a v s = poke8 b v s := by
  simp only [poke8, slotOf_of_sameStorage h]

/-- Without the mirror, addresses share no storage (R75). -/
theorem sameStorage_iff_eq {cfg : Config} (h : cfg.echoMirror = false) (a b : Word) : sameStorage cfg a b ↔ a = b := by
  simp [sameStorage, h]

/-- An address and the next are never aliases of each other (95_test_vectors.md Q5): aliases lie 0x2000 apart. -/
theorem not_sameStorage_succ (cfg : Config) (a : Word) : ¬ sameStorage cfg a (a + 1) := by
  have hsucc : (a + 1).toNat = (a.toNat + 1) % 65536 := BitVec.toNat_add a 1
  have hlt := a.isLt
  rintro (heq | ⟨-, hfar⟩)
  · have := congrArg BitVec.toNat heq
    omega
  · omega

/-! ### Bytes and words of the host (R80, R81) -/

theorem hostRead_byte {a : Word} {s : State} {v : Byte} (h : peek8 a s = some v) :
    hostRead a false s = (some (.w8 v), s) := by
  simp [hostRead, busRead8_ok.2 h, answer, Except.map]

theorem hostRead_word {a : Word} {s : State} {lo hi : Byte} (hlo : peek8 a s = some lo) (hhi : peek8 (a + 1) s = some hi) :
    hostRead a true s = (some (.w16 (join hi lo)), s) := by
  simp [hostRead, memRead16_ok.2 ⟨lo, hi, hlo, hhi, rfl⟩, answer, Except.map]

/-- A wide write at mapped addresses is two byte stores, the low byte first. -/
theorem hostWrite_word {a : Word} {s : State} (v : Word) (h : Mapped s.cfg a) (h' : Mapped s.cfg (a + 1)) :
    ∃ t, poke8 a (lo8 v) s = some t ∧ poke8 (a + 1) (hi8 v) t = some (hostWrite a (.w16 v) s) := by
  obtain ⟨t, ht⟩ := poke8_of_mapped (lo8 v) h
  rw [← poke8_cfg ht] at h'
  obtain ⟨u, hu⟩ := poke8_of_mapped (hi8 v) h'
  have hw : hostWrite a (.w16 v) s = u := by simp [hostWrite, memWrite16_ok.2 ⟨t, ht, hu⟩, commit]
  exact ⟨t, ht, hw ▸ hu⟩

/-- After a wide write off the IE cell, the two addresses hold its two bytes. -/
theorem peek8_hostWrite_word {a : Word} {s : State} (v : Word) (hi : StorageInv s) (h : Mapped s.cfg a)
    (h' : Mapped s.cfg (a + 1)) (ha : a ≠ 0xFFFF) (ha' : a + 1 ≠ 0xFFFF) :
    peek8 a (hostWrite a (.w16 v) s) = some (lo8 v) ∧ peek8 (a + 1) (hostWrite a (.w16 v) s) = some (hi8 v) := by
  obtain ⟨t, ht, hu⟩ := hostWrite_word v h h'
  refine ⟨?_, peek8_poke8_of_ne (poke8_inv ht hi) ha' hu⟩
  rw [poke8_other hu (not_sameStorage_succ _ a), peek8_poke8_of_ne hi ha ht]

theorem lo8_eq_ofNat (v : Word) : lo8 v = BitVec.ofNat 8 (v.toNat % 256) := by
  rw [← lo8_toNat, BitVec.ofNat_toNat, BitVec.setWidth_eq]

theorem hi8_eq_ofNat (v : Word) : hi8 v = BitVec.ofNat 8 (v.toNat / 256) := by
  rw [← hi8_toNat, BitVec.ofNat_toNat, BitVec.setWidth_eq]

/-! ### What keeps the storage -/

/-- A fault raised leaves the storage and the parameters as they were (R421). -/
theorem raise_keepsInv {s : State} (hi : StorageInv s) (f : Fault) : StorageInv (s.raise f) ∧ (s.raise f).cfg = s.cfg :=
  ⟨StorageInv_congr (s.raise_mem f) (s.raise_cfg f) hi, s.raise_cfg f⟩

theorem peek8_raise (a : Word) (s : State) (f : Fault) : peek8 a (s.raise f) = peek8 a s :=
  peek8_congr (s.raise_mem f) (s.raise_ie f) (s.raise_cfg f) a

end Sys2Proof.Machine

namespace Sys2Proof

open Machine Host

/-- Everything a step that answers a next state can do (R150): it ran the instruction it fetched, or raised the fault of the
fetch. -/
theorem step_next_cases {s t : State} (h : step s = .next t) :
    (∃ i, fetchDecode s = .ok i ∧ exec i s = .next t) ∨ ∃ f, fetchDecode s = .error f ∧ t = s.raise f := by
  cases hrun : s.run with
  | faulted f => exact nomatch (step_of_faulted hrun).symm.trans h
  | running =>
    cases hd : fetchDecode s with
    | error f => exact .inr ⟨f, rfl, (Outcome.next.inj ((step_of_fetch_error hrun hd).symm.trans h)).symm⟩
    | ok i => exact .inl ⟨i, rfl, (step_of_decoded hrun hd).symm.trans h⟩

/-- No instruction breaks the storage invariant or writes a parameter, whether it completes or faults. -/
theorem exec_keepsInv {i : Instr} {s t : State} (hi : StorageInv s) (h : exec i s = .next t) :
    StorageInv t ∧ t.cfg = s.cfg := by
  rcases exec_rowEffect h with ⟨n, -, e⟩ | ⟨f, rfl⟩
  · exact ⟨e.inv hi, e.cfg⟩
  · exact raise_keepsInv hi f

/-- Settles O3: a step runs an instruction, whose effect keeps the invariant, or only raises a fault. -/
theorem stepKeepsInv : Obligations.StepKeepsInv := by
  intro s t hi h
  rcases step_next_cases h with ⟨i, -, hexec⟩ | ⟨f, -, rfl⟩
  · exact exec_keepsInv hi hexec
  · exact raise_keepsInv hi f

/-- Settles O22: an instruction's effect stores to its footprint only, and a fault stores nothing. -/
theorem memoryFrame : Obligations.MemoryFrame := by
  intro i s t h a ha
  rcases exec_rowEffect h with ⟨n, -, e⟩ | ⟨f, rfl⟩
  · exact e.mem a ha
  · exact peek8_raise a s f

/-- Settles O24: each range of the map is one region, from its base on. -/
theorem regionMap : Obligations.RegionMap := by
  intro a
  refine ⟨fun h => translate_of_range .rom0 (Nat.zero_le _) (Nat.lt_succ_of_le h),
    fun lo hi => translate_of_range .rom1 lo (Nat.lt_succ_of_le hi),
    fun lo hi => translate_of_range .vram lo (Nat.lt_succ_of_le hi),
    fun lo hi => translate_of_range .eram lo (Nat.lt_succ_of_le hi),
    fun lo hi => translate_of_range .wram0 lo (Nat.lt_succ_of_le hi),
    fun lo hi => translate_of_range .wram1 lo (Nat.lt_succ_of_le hi),
    fun lo hi => translate_of_range .echo lo (Nat.lt_succ_of_le hi),
    fun lo hi => translate_of_range .oam lo (Nat.lt_succ_of_le hi),
    fun lo hi => translate_of_range .unmapped lo (Nat.lt_succ_of_le hi),
    fun lo hi => translate_of_range .io lo (Nat.lt_succ_of_le hi),
    fun lo hi => translate_of_range .hram lo (Nat.lt_succ_of_le hi),
    fun h => ?_⟩
  have hie := translate_of_range .ie h.ge (Nat.lt_succ_of_le h.le)
  rwa [h] at hie

/-- Settles O25: an access is accepted where something is behind the address. -/
theorem gapPolicy : Obligations.GapPolicy := by
  intro a v s
  rw [← Option.isSome_iff_exists, ← Option.isSome_iff_exists]
  exact ⟨peek8_isSome_iff_mapped, poke8_isSome_iff_mapped⟩

/-- Settles O26: read after write, and the frame of a store. -/
theorem storeThenLoad : Obligations.StoreThenLoad :=
  fun _ _ _ _ hi h => ⟨peek8_poke8_same hi h, fun _ => poke8_other h⟩

/-- Settles O27: under the mirror the two addresses share storage; without it a store to one is outside the other's storage. -/
theorem echoMirror : Obligations.EchoMirror := by
  intro w e v s hlo hhi hoff
  refine ⟨fun hm => ?_, fun hm t => ?_⟩
  · have hsame : sameStorage s.cfg e w := .inr ⟨hm, .inr ⟨hlo, hhi, hoff⟩⟩
    exact ⟨peek8_of_sameStorage hsame, poke8_of_sameStorage v hsame⟩
  · have hne : w ≠ e := fun h => by
      rw [h] at hoff
      omega
    exact ⟨fun h => poke8_other h ((sameStorage_iff_eq hm w e).not.2 hne),
      fun h => poke8_other h ((sameStorage_iff_eq hm e w).not.2 hne.symm)⟩

/-- Settles O28: a word is its two bytes joined, and the two bytes of a wide write lie in two storage cells. -/
theorem wideAccessesAreLittleEndian : Obligations.WideAccessesAreLittleEndian := by
  refine ⟨fun a lo hi s hlo hhi => ⟨join hi lo, hostRead_word hlo hhi, join_toNat hi lo⟩, ?_⟩
  intro a v s _ hi hm hm' ha ha'
  obtain ⟨hlo, hhi⟩ := peek8_hostWrite_word v hi hm hm' ha ha'
  have hword := hostRead_word hlo hhi
  rw [join_hi8_lo8] at hword
  rw [← lo8_eq_ofNat, ← hi8_eq_ofNat]
  exact ⟨hword, hostRead_byte hlo, hostRead_byte hhi⟩

end Sys2Proof
end

section
/-! SUPPORT. The encoding family (30_encoding.md): which bytes spell which instruction by the decoder's two tables, and that these
are the bytes the encoder gives it; then a step by the instruction decoded at pc. -/

namespace Sys2Proof

open Machine Host

/-! ### The bytes that spell an instruction -/

/-- The bytes of an instruction by the tables of decode (R110, R112): the opcode alone, with one operand byte, with two, the low
one first, or the escape byte with its second byte. -/
inductive Spells : List Byte → Instr → Prop
  | done {op : Byte} {i : Instr} (h : primaryEntry op = .done i) : Spells [op] i
  | imm8 {op : Byte} {k : Byte → Instr} (h : primaryEntry op = .imm8 k) (n : Byte) : Spells [op, n] (k n)
  | imm16 {op : Byte} {k : Word → Instr} (h : primaryEntry op = .imm16 k) (nn : Word) : Spells [op, lo8 nn, hi8 nn] (k nn)
  | escape (op2 : Byte) : Spells [0xCB, op2] (escapeTable op2)

variable {bs : List Byte} {i : Instr}

/-- Decode reads the bytes that spell an instruction, and no further. -/
theorem Spells.decode_append (h : Spells bs i) (rest : List Byte) : decode (bs ++ rest) = .ok (i, rest) := by
  cases h with
  | done h => exact decode_done h rest
  | imm8 h n => exact decode_imm8 h n rest
  | imm16 h nn =>
    have hd := decode_imm16 h (lo8 nn) (hi8 nn) rest
    rwa [join_hi8_lo8] at hd
  | escape op2 => exact decode_escape op2 rest rfl

/-- Bytes spell one instruction only. -/
theorem Spells.unique {j : Instr} (h : Spells bs i) (h' : Spells bs j) : i = j :=
  congrArg Prod.fst (Except.ok.inj ((h.decode_append []).symm.trans (h'.decode_append [])))

/-- Of any three bytes, the first one to three spell an instruction (R129). -/
theorem exists_spells_take (b0 b1 b2 : Byte) (rest : List Byte) :
    ∃ i used, 1 ≤ used ∧ used ≤ 3 ∧ Spells ((b0 :: b1 :: b2 :: rest).take used) i := by
  cases he : primaryEntry b0 with
  | done i => exact ⟨i, 1, by decide, by decide, .done he⟩
  | imm8 k => exact ⟨k b1, 2, by decide, by decide, .imm8 he b1⟩
  | imm16 k =>
    have hs := Spells.imm16 he (join b2 b1)
    rw [lo8_join, hi8_join] at hs
    exact ⟨_, 3, by decide, by decide, hs⟩
  | escape =>
    obtain rfl := primaryEntry_escape.1 he
    exact ⟨escapeTable b1, 2, by decide, by decide, .escape b1⟩

/-! ### From an instruction to its bytes -/

/-- The bytes encode gives an instruction spell it: each family at each code of its fields, and the rows without a family. -/
theorem spells_encode (hw : i.wellFormed = true) : Spells (encode i) i := by
  cases i using Instr.byForm with
  | ld d r => rcases d with ⟨⟨⟩⟩ | _ <;> rcases r with ⟨⟨⟩⟩ | _ <;> exact .done rfl
  | alu op r => cases op <;> rcases r with ⟨⟨⟩⟩ | _ <;> exact .done rfl
  | inc r | dec r => rcases r with ⟨⟨⟩⟩ | _ <;> exact .done rfl
  | addHl x | incPair x | decPair x | pop x | push x | retCc x | rst x => cases x <;> exact .done rfl
  | ldImm r n => rcases r with ⟨⟨⟩⟩ | _ <;> exact .imm8 rfl n
  | aluImm x n | jrCc x n => cases x <;> exact .imm8 rfl n
  | jrDisp n | ldhAtImmA n | ldhAAtImm n | ldHLSPDisp n => exact .imm8 rfl n
  | ldPair x nn | jpCc x nn | callCc x nn => cases x <;> exact .imm16 rfl nn
  | ldAtImm16SP nn | jpImm16 nn | callImm16 nn | ldAtImm16A nn | ldAAtImm16 nn => exact .imm16 rfl nn
  | rot x r | bit x r | res x r | set x r => cases x <;> rcases r with ⟨⟨⟩⟩ | _ <;> exact .escape _
  | prefixCB => exact nomatch hw
  | _ => exact .done rfl

/-- Settles O4: the bytes encode gives an instruction spell it, and decode reads what they spell. -/
theorem decodeUndoesEncode : Obligations.DecodeUndoesEncode :=
  fun _ rest hw => (spells_encode hw).decode_append rest

/-! ### From the bytes to the instruction -/

/-- The instruction of an entry with the operand `nn`, of which a row with one further byte takes the low half. For the escape
byte it is the escape byte's own row. -/
def Entry.instr : Entry → Word → Instr
  | .done i, _ => i
  | .imm8 k, nn => k (lo8 nn)
  | .imm16 k, nn => k nn
  | .escape, nn => .prefixCB (lo8 nn)

/-- The bytes of the operand `nn` that stand after the opcode of an entry. -/
def Entry.operands : Entry → Word → List Byte
  | .done _, _ => []
  | .imm8 _, nn => [lo8 nn]
  | .imm16 _, nn => [lo8 nn, hi8 nn]
  | .escape, nn => [lo8 nn]

/-- A byte by its fields x, y and z (R111). -/
theorem exists_fields (op : Byte) : ∃ (x : Fin 4) (y z : Fin 8), op = BitVec.ofNat 8 (64 * x + 8 * y + z) := by
  have hlt := op.isLt
  refine ⟨⟨op.toNat / 64, by omega⟩, ⟨op.toNat / 8 % 8, by omega⟩, ⟨op.toNat % 8, by omega⟩, BitVec.eq_of_toNat_eq ?_⟩
  simp only [BitVec.toNat_ofNat]
  omega

/-- The encoder's row of the instruction at each of the 256 slots of the primary table is that slot (R120 to R124). -/
theorem encode_instr_primaryEntry (op : Byte) (nn : Word) :
    encode ((primaryEntry op).instr nn) = op :: (primaryEntry op).operands nn := by
  obtain ⟨x, y, z, rfl⟩ := exists_fields op
  fin_cases x <;> fin_cases y <;> fin_cases z <;> rfl

/-- The encoder's row of the instruction at each slot of the escape table is that slot (R125). -/
theorem encode_escapeTable : ∀ op2 : Byte, encode (escapeTable op2) = [0xCB, op2] := by decide

/-- The bytes that spell an instruction are the ones encode gives it. -/
theorem Spells.encode_eq (h : Spells bs i) : encode i = bs := by
  cases h with
  | @done op i h =>
    have he := encode_instr_primaryEntry op 0
    rwa [h] at he
  | @imm8 op k h n =>
    have he := encode_instr_primaryEntry op (join 0 n)
    rwa [h, Entry.instr, Entry.operands, lo8_join] at he
  | @imm16 op k h nn =>
    have he := encode_instr_primaryEntry op nn
    rwa [h] at he
  | escape op2 => exact encode_escapeTable op2

/-- No bytes spell the escape byte's own row: its bytes are those of the escape table's instruction. -/
theorem Spells.wellFormed (h : Spells bs i) : i.wellFormed = true := by
  cases i with
  | prefixCB op2 =>
    obtain rfl : [0xCB, op2] = bs := h.encode_eq
    rw [h.unique (.escape op2)]
    exact escapeTable_wellFormed op2
  | _ => rfl

/-- Settles O5: of any three bytes the first few spell an instruction, which decode reads and encode gives back. -/
theorem decodeIsTotal : Obligations.DecodeIsTotal := by
  intro b0 b1 b2 rest
  obtain ⟨i, used, hpos, hle, hs⟩ := exists_spells_take b0 b1 b2 rest
  have hd := hs.decode_append ((b0 :: b1 :: b2 :: rest).drop used)
  rw [List.take_append_drop] at hd
  exact ⟨i, used, hd, hs.encode_eq, hpos, hle, hs.wellFormed⟩

/-! ### A step by the bytes at pc (R150) -/

theorem byteAt_ok {k : Nat} {v : Byte} : byteAt bs k = .ok v ↔ bs[k]? = some v := by
  unfold byteAt
  cases bs[k]? <;> simp

/-- What decode answers is the instruction of the list's bytes, and the list without the bytes of its entry. -/
theorem decode_eq_ok {rest : List Byte} :
    decode bs = .ok (i, rest) ↔ decodeWith (byteAt bs) = .ok i ∧ bs.drop (primaryEntry (bs.headD 0)).bytes = rest := by
  unfold decode
  cases decodeWith (byteAt bs) <;> simp

/-- Settles O7: decode of the list and fetch at pc read the same bytes, those of the opcode's entry. -/
theorem stepRunsDecoded : Obligations.StepRunsDecoded := by
  intro s bs rest i hlive hd hbus
  obtain ⟨hdec, rfl⟩ := decode_eq_ok.1 hd
  refine step_of_decoded hlive (decodeWith_congr hdec fun op hop k v hk hv => ?_)
  rw [byteAt_ok] at hop hv
  obtain ⟨hlen, -⟩ := List.getElem?_eq_some_iff.1 hv
  have hhead : bs.headD 0 = op := by simp [List.headD_eq_head?_getD, List.head?_eq_getElem?, hop]
  rw [hhead, List.length_drop] at hbus
  exact busRead8_ok.2 (hbus k v (by omega) hv)

/-! ### The rows that fault at decode -/

/-- A row that only raises a fault sets RUN and nothing else. -/
theorem settle_error_of_live {s : State} (hlive : Live s) (f : Fault) :
    settle s (.error f) = .next { s with run := .faulted f } := by
  rw [settle_error, State.raise_of_running hlive]

/-- A one-byte row at pc is what the step runs, whatever follows it. -/
theorem step_of_done {s : State} {op : Byte} (hlive : Live s) (hop : peek8 s.pc s = some op)
    (h : primaryEntry op = .done i) : step s = exec i s := by
  refine stepRunsDecoded s [op] [] i hlive (decode_done h []) fun k v hk hv => ?_
  obtain rfl : k = 0 := Nat.lt_one_iff.1 hk
  obtain rfl : op = v := Option.some.inj hv
  rw [← hop]
  exact congrArg (peek8 · s) (BitVec.add_zero s.pc)

/-- The unused opcodes are one-byte rows, each of which only raises its fault (R127, R405). -/
theorem primaryEntry_unused {op : Byte}
    (h : op ∈ ([0xD3, 0xDB, 0xDD, 0xE3, 0xE4, 0xEB, 0xEC, 0xED, 0xF4, 0xFC, 0xFD] : List Byte)) :
    ∃ i, primaryEntry op = .done i ∧ ∀ s, exec i s = settle s (.error (.unusedOpcode op s.pc)) := by
  fin_cases h <;> exact ⟨_, rfl, fun _ => rfl⟩

/-- STOP, HALT and ADD SP,e are one-byte rows, each of which only raises its fault (R128). -/
theorem primaryEntry_unimplemented {op : Byte} (h : op ∈ ([0x10, 0x76, 0xE8] : List Byte)) :
    ∃ i, primaryEntry op = .done i ∧ ∀ s, exec i s = settle s (.error (.unimplemented op s.pc)) := by
  fin_cases h <;> exact ⟨_, rfl, fun _ => rfl⟩

/-- Settles O9: the step runs the row at pc, and every one of these rows only raises its fault. -/
theorem stoppingRows : Obligations.StoppingRows := by
  intro s hlive
  have raises := settle_error_of_live hlive
  refine ⟨fun op hop => ⟨fun hmem => ?_, fun hmem => ?_⟩, raises _, raises _, raises _, raises _, raises _, raises _, raises _,
    raises _, raises _, raises _, raises _, raises _, raises _, raises _⟩
  · obtain ⟨i, hentry, hexec⟩ := primaryEntry_unused hmem
    exact (step_of_done hlive hop hentry).trans ((hexec s).trans (raises _))
  · obtain ⟨i, hentry, hexec⟩ := primaryEntry_unimplemented hmem
    exact (step_of_done hlive hop hentry).trans ((hexec s).trans (raises _))

end Sys2Proof
end

section
/-! SUPPORT. The ALU's addition, subtraction and decimal correction in exact arithmetic (40_alu_flags.md R161, R162, R170), and
what DAA makes of a sum and of a difference of decimal bytes. -/

namespace Sys2Proof.Machine

open Host

/-! ### The ALU's outputs as numbers -/

@[simp] theorem nibble_eq_mod (v : Byte) : nibble v = v.toNat % 16 :=
  Nat.and_two_pow_sub_one_eq_mod v.toNat 4

theorem beq_zero_eq_decide_toNat (v : Byte) : (v == 0#8) = decide (v.toNat = 0) := by
  rw [beq_eq_decide]
  exact decide_eq_decide.2 BitVec.toNat_inj.symm

/-- The difference narrowed to a byte is the difference with 256 added before it, in the numbers. -/
theorem sub8_toNat (a b : Byte) (borrow : Bool) :
    (sub8 a b borrow).r.toNat = (256 + a.toNat - b.toNat - borrow.toNat) % 256 := by
  have hborrow := Bool.toNat_le borrow
  simp only [sub8, BitVec.toNat_ofInt]
  omega

/-- A and F written with what `add8` puts out (R161). -/
theorem set_add8 (v : Byte) (carry : Bool) (s : State) :
    (s.setReg .a (add8 s.a v carry).r).setFlags (add8 s.a v carry).z false (add8 s.a v carry).h (add8 s.a v carry).c =
      added v carry s := by
  have hr : (add8 s.a v carry).r = BitVec.ofNat 8 ((s.a.toNat + v.toNat + carry.toNat) % 256) :=
    BitVec.eq_of_toNat_eq (by simp [add8])
  have hz : (add8 s.a v carry).z = decide ((s.a.toNat + v.toNat + carry.toNat) % 256 = 0) := by
    simp [add8, beq_zero_eq_decide_toNat]
  have hh : (add8 s.a v carry).h = decide (s.a.toNat % 16 + v.toNat % 16 + carry.toNat > 0x0F) := by simp [add8]
  rw [hr, hz, hh]
  rfl

/-- A and F written with what `sub8` puts out (R162). -/
theorem set_sub8 (v : Byte) (borrow : Bool) (s : State) :
    (s.setReg .a (sub8 s.a v borrow).r).setFlags (sub8 s.a v borrow).z true (sub8 s.a v borrow).h (sub8 s.a v borrow).c =
      subtracted v borrow s := by
  have hborrow := Bool.toNat_le borrow
  have hr : (sub8 s.a v borrow).r = BitVec.ofNat 8 ((256 + s.a.toNat - v.toNat - borrow.toNat) % 256) :=
    BitVec.eq_of_toNat_eq (by simp [sub8_toNat])
  have hz : (sub8 s.a v borrow).z = decide (s.a.toNat % 256 = (v.toNat + borrow.toNat) % 256) := by
    have hout : (sub8 s.a v borrow).z = decide ((sub8 s.a v borrow).r.toNat = 0) := beq_zero_eq_decide_toNat _
    rw [hout, sub8_toNat, decide_eq_decide]
    omega
  have hh : (sub8 s.a v borrow).h = decide (s.a.toNat % 16 < v.toNat % 16 + borrow.toNat) := by simp [sub8]
  rw [hr, hz, hh]
  rfl

theorem aluApply_add (v : Byte) (s : State) : aluApply .add v s = added v false s := set_add8 v false s

theorem aluApply_sub (v : Byte) (s : State) : aluApply .sub v s = subtracted v false s := set_sub8 v false s

/-! ### The decimal correction (R170) -/

/-- The corrected value: the correction is added to A, or subtracted from it after a subtraction. -/
theorem daaEval_toNat (a : Byte) (n h c : Bool) :
    (daaEval a n h c).1.toNat =
      (if n then 256 + a.toNat - daaCorrection a n h c else a.toNat + daaCorrection a n h c) % 256 := by
  cases n with
  | false =>
    have hnibble : ∀ high : Bool, (if high then a + 0x60 else a).toNat % 16 = a.toNat % 16 := by
      intro high
      cases high with
      | false => rfl
      | true =>
        simp [BitVec.toNat_add]
        omega
    simp only [daaEval, daaCorrection, nibble_eq_mod, hnibble, Bool.not_false, Bool.true_and, Bool.false_eq_true, reduceIte]
    generalize (c || decide (a.toNat > 0x99)) = high
    generalize (h || decide (a.toNat % 16 > 0x09)) = low
    cases high <;> cases low <;> simp [BitVec.toNat_add]
    omega
  | true => cases h <;> cases c <;> simp [daaEval, daaCorrection, BitVec.toNat_sub] <;> omega

/-- The new carry: kept, or set where the high correction is made after an addition. -/
theorem daaEval_carry (a : Byte) (n h c : Bool) : (daaEval a n h c).2 = (c || (!n && decide (a.toNat > 0x99))) := by
  cases n with
  | false => rfl
  | true => exact (Bool.or_false c).symm

/-! ### DAA after an addition and after a subtraction -/

/-- The value and the carry DAA makes of A and F. -/
def State.daa (s : State) : Byte × Bool := daaEval s.a s.flagN s.flagH s.flagC

/-- What DAA adds to the sum of two bytes: the low correction where the sum of the low digits passes 9, the high one where the
whole sum passes 0x99. -/
def sumCorrection (a b : Byte) : Nat :=
  (if a.toNat + b.toNat > 0x99 then 0x60 else 0) + (if a.toNat % 16 + b.toNat % 16 > 9 then 0x06 else 0)

/-- What DAA subtracts from the difference of two bytes: the low correction where the low digits borrow, the high one where the
bytes do. -/
def differenceCorrection (a b : Byte) : Nat :=
  (if a.toNat < b.toNat then 0x60 else 0) + (if a.toNat % 16 < b.toNat % 16 then 0x06 else 0)

variable (n : Byte) (s : State)

/-- C and the sum left in A tell together that the whole sum passes 0x99. -/
theorem added_passes_99 : ((added n false s).flagC || decide ((added n false s).a.toNat > 0x99)) =
    decide (s.a.toNat + n.toNat > 0x99) := by
  rw [Bool.eq_iff_iff]
  simp [added]
  omega

/-- H and the low digit left in A tell together that the sum of the low digits passes 9. -/
theorem added_low_passes_9 : ((added n false s).flagH || decide ((added n false s).a.toNat % 16 > 0x09)) =
    decide (s.a.toNat % 16 + n.toNat % 16 > 9) := by
  rw [Bool.eq_iff_iff]
  simp [added]
  omega

theorem daaCorrection_added :
    daaCorrection (added n false s).a false (added n false s).flagH (added n false s).flagC = sumCorrection s.a n := by
  simp only [daaCorrection, sumCorrection, Bool.not_false, Bool.true_and, added_passes_99, added_low_passes_9,
    decide_eq_true_eq]

theorem daaCorrection_subtracted :
    daaCorrection (subtracted n false s).a true (subtracted n false s).flagH (subtracted n false s).flagC =
      differenceCorrection s.a n := by
  simp [daaCorrection, differenceCorrection, subtracted]

theorem added_daa_value :
    (added n false s).daa.1.toNat = ((s.a.toNat + n.toNat) % 256 + sumCorrection s.a n) % 256 := by
  rw [← daaCorrection_added]
  refine (daaEval_toNat _ false _ _).trans ?_
  simp [added]

theorem added_daa_carry : (added n false s).daa.2 = decide (s.a.toNat + n.toNat > 0x99) :=
  (daaEval_carry _ false _ _).trans (added_passes_99 n s)

theorem subtracted_daa_value : (subtracted n false s).daa.1.toNat =
    (256 + (256 + s.a.toNat - n.toNat) % 256 - differenceCorrection s.a n) % 256 := by
  rw [← daaCorrection_subtracted]
  refine (daaEval_toNat _ true _ _).trans ?_
  simp [subtracted]

theorem subtracted_daa_carry : (subtracted n false s).daa.2 = decide (s.a.toNat < n.toNat) := rfl

end Sys2Proof.Machine

namespace Sys2Proof

open Machine Host

/-! ### Decimal digits -/

/-- The corrected sum of two decimal bytes is their decimal sum, and that passes 99 where the sum of the bytes passes 0x99. -/
theorem bcdValue_sum {a b r : Byte} {c : Bool} (ha : isBcd a) (hb : isBcd b)
    (hr : r.toNat = ((a.toNat + b.toNat) % 256 + sumCorrection a b) % 256) (hc : c = decide (a.toNat + b.toNat > 0x99)) :
    isBcd r ∧ bcdValue r + 100 * c.toNat = bcdValue a + bcdValue b := by
  unfold isBcd bcdValue sumCorrection at *
  by_cases hhigh : a.toNat + b.toNat > 0x99 <;> by_cases hlow : a.toNat % 16 + b.toNat % 16 > 9 <;>
    simp only [hc, hhigh, hlow, reduceIte, decide_true, decide_false, Bool.toNat_true, Bool.toNat_false] at hr ⊢ <;> omega

/-- The corrected difference of two decimal bytes is their decimal difference, and that borrows where the bytes do. -/
theorem bcdValue_difference {a b r : Byte} {c : Bool} (ha : isBcd a) (hb : isBcd b)
    (hr : r.toNat = (256 + (256 + a.toNat - b.toNat) % 256 - differenceCorrection a b) % 256)
    (hc : c = decide (a.toNat < b.toNat)) :
    isBcd r ∧ bcdValue r + bcdValue b = bcdValue a + 100 * c.toNat := by
  unfold isBcd bcdValue differenceCorrection at *
  by_cases hhigh : a.toNat < b.toNat <;> by_cases hlow : a.toNat % 16 < b.toNat % 16 <;>
    simp only [hc, hhigh, hlow, reduceIte, decide_true, decide_false, Bool.toNat_true, Bool.toNat_false] at hr ⊢ <;> omega

/-! ### The instructions -/

/-- An instruction whose body completes from the charged state. -/
theorem instr_of_charged_ok {k : Nat} {body : State → Except Fault State} {s t : State} (h : body (charged k s) = .ok t)
    (hk : 0 < k := by decide) : instr k body s = .next t :=
  instr_of_ok ((congrArg body (charge_eq_charged hk s)).trans h)

theorem exec_aluImmInstr_next (op : AluOp) (n : Byte) (s : State) :
    exec (aluImmInstr op n) s = .next ((aluApply op n (charged 8 s)).advance 2) :=
  (exec_aluImmInstr s op n).trans (instr_of_charged_ok rfl)

theorem exec_daa (s : State) :
    exec .daa s = .next { charged 4 s with
      a := s.daa.1, flagZ := s.daa.1 == 0#8, flagH := false, flagC := s.daa.2, pc := s.pc + 1 } :=
  instr_of_charged_ok (body := daaBody) rfl

/-- Settles O48: DAA corrects each digit of the sum that passes 9, and each digit of the difference that borrows. -/
theorem daaIsDecimal : Obligations.DaaIsDecimal := by
  intro s t u n ha hn
  refine ⟨fun hadd hdaa => ?_, fun hsub hdaa => ?_⟩
  · cases (exec_aluImmInstr_next .add n s).symm.trans hadd
    rw [aluApply_add] at hdaa
    cases (exec_daa _).symm.trans hdaa
    exact bcdValue_sum ha hn (added_daa_value n (charged 8 s)) (added_daa_carry n (charged 8 s))
  · cases (exec_aluImmInstr_next .sub n s).symm.trans hsub
    rw [aluApply_sub] at hdaa
    cases (exec_daa _).symm.trans hdaa
    exact bcdValue_difference ha hn (subtracted_daa_value n (charged 8 s)) (subtracted_daa_carry n (charged 8 s))

end Sys2Proof
end

section
/-! SUPPORT. The 8-bit load family (41_loads8.md): the next state of each shared body where its access is accepted, with the cost
charged and pc moved, and the bytes of the rows. -/

namespace Sys2Proof.Machine

open Host

/-! ### The addresses of the high page -/

theorem highPage_eq_ofNat (n : Byte) : highPage n = BitVec.ofNat 16 (0xFF00 + n.toNat) := by
  rw [BitVec.ofNat_add, BitVec.ofNat_toNat]
  rfl

/-! ### What pc is when a body advances it -/

variable {k : Nat} {ea : Word} {v : Byte} {s t : State}

/-- A store of the body leaves pc at the instruction (R424). -/
theorem pc_of_poke8_charged (h : poke8 ea v (charged k s) = some t) : t.pc = s.pc := by
  rw [poke8_frame h]
  rfl

theorem advance_of_poke8_charged (h : poke8 ea v (charged k s) = some t) (len : Word) :
    t.advance len = t.setPC (s.pc + len) := by
  rw [State.advance, pc_of_poke8_charged h]

theorem advance_setReg_charged (dst : Reg8) (v : Byte) (len : Word) :
    ((charged k s).setReg dst v).advance len = ((charged k s).setReg dst v).setPC (s.pc + len) := by
  rw [State.advance, State.setReg_pc]
  rfl

/-! ### The shared bodies -/

/-- A load of a register from the operand that reads as `v` (R200, R201). -/
theorem instr_loadR8_reg {src : Place} (dst : Reg8) (h : getR8 src (charged k s) = .ok v) (hk : 0 < k := by decide) :
    instr k (loadR8 (.reg dst) src) s = .next (((charged k s).setReg dst v).setPC (s.pc + 1)) := by
  rw [← advance_setReg_charged]
  exact instr_of_charged_ok (bind_ok.2 ⟨v, h, rfl⟩) hk

/-- A load of a register with the instruction's own byte (R203). -/
theorem instr_loadImm_reg (dst : Reg8) (n : Byte) (hk : 0 < k := by decide) :
    instr k (loadImm (.reg dst) n) s = .next (((charged k s).setReg dst n).setPC (s.pc + 2)) := by
  rw [← advance_setReg_charged]
  exact instr_of_charged_ok rfl hk

/-- A store of a register that the bus accepts (R202). -/
theorem instr_loadR8_mem (r : Reg8) (h : poke8 ea (s.getReg r) (charged k s) = some t) (hk : 0 < k := by decide) :
    instr k (loadR8 (.mem ea) (.reg r)) s = .next (t.setPC (s.pc + 1)) := by
  rw [← advance_of_poke8_charged h]
  rw [← getReg_charged k] at h
  exact instr_of_charged_ok (bind_ok.2 ⟨_, getR8_reg r _, bind_ok.2 ⟨t, setR8_mem_ok.2 h, rfl⟩⟩) hk

/-- A store of the instruction's own byte that the bus accepts (R204). -/
theorem instr_loadImm_mem {n : Byte} (h : poke8 ea n (charged k s) = some t) (hk : 0 < k := by decide) :
    instr k (loadImm (.mem ea) n) s = .next (t.setPC (s.pc + 2)) := by
  rw [← advance_of_poke8_charged h]
  exact instr_of_charged_ok (bind_ok.2 ⟨t, setR8_mem_ok.2 h, rfl⟩) hk

/-- A load of A from an address that can be read. -/
theorem instr_loadA {len : Word} (h : peek8 ea s = some v) (hk : 0 < k := by decide) :
    instr k (loadA ea len) s = .next { charged k s with a := v, pc := s.pc + len } :=
  instr_of_charged_ok (bind_ok.2 ⟨v, busRead8_ok.2 ((peek8_charged k ea s).trans h), rfl⟩) hk

/-- A store of A that the bus accepts. -/
theorem instr_storeA {len : Word} (h : poke8 ea s.a (charged k s) = some t) (hk : 0 < k := by decide) :
    instr k (storeA ea len) s = .next { t with pc := s.pc + len } := by
  rw [← pc_of_poke8_charged h]
  exact instr_of_charged_ok (bind_ok.2 ⟨t, busWrite8_ok.2 h, rfl⟩) hk

/-- A load of A that then moves HL (R215, R216). -/
theorem instr_loadAStep {move : Word → Word} (h : peek8 ea s = some v) (hk : 0 < k := by decide) :
    instr k (loadAStep move ea) s =
      .next { charged k s with a := v, h := hi8 (move s.hl), l := lo8 (move s.hl), pc := s.pc + 1 } :=
  instr_of_charged_ok (bind_ok.2 ⟨v, busRead8_ok.2 ((peek8_charged k ea s).trans h), rfl⟩) hk

/-- A store of A that then moves HL (R217, R218). -/
theorem instr_storeAStep {move : Word → Word} (h : poke8 ea s.a (charged k s) = some t) (hk : 0 < k := by decide) :
    instr k (storeAStep move ea) s =
      .next { t with h := hi8 (move s.hl), l := lo8 (move s.hl), pc := s.pc + 1 } := by
  rw [← pc_of_poke8_charged h]
  exact instr_of_charged_ok (bind_ok.2 ⟨t, busWrite8_ok.2 h, rfl⟩) hk

end Sys2Proof.Machine

namespace Sys2Proof

open Machine Host

/-! ### The bytes -/

/-- The bytes of the rows of LD r,r' by the codes of the two fields (R111, R114); those of HALT stand at the code of (HL) in
both. -/
theorem encode_ldInstr (d r : R8) : encode (ldInstr d r) = [BitVec.ofNat 8 (0x40 + 8 * d.code + r.code)] := by
  rcases d with ⟨⟨⟩⟩ | _ <;> rcases r with ⟨⟨⟩⟩ | _ <;> rfl

/-- The bytes of LD r,n by the code of the field. -/
theorem encode_ldImmInstr (d : R8) (n : Byte) : encode (ldImmInstr d n) = [BitVec.ofNat 8 (0x06 + 8 * d.code), n] := by
  rcases d with ⟨⟨⟩⟩ | _ <;> rfl

/-- Settles O6: the entry of each opcode takes the bytes that follow it. -/
theorem decodedWords : Obligations.DecodedWords :=
  ⟨decode_done rfl [], decode_imm8 rfl 0x77 [], decode_imm8 rfl 0x44 [], decode_imm16 rfl 0x34 0x12 [], decode_done rfl [],
    decode_done rfl [], decode_imm8 rfl 0x0F [], decode_done rfl [], decode_done rfl [], decode_done rfl [],
    decode_escape 0x37 [] rfl, decode_escape 0x7C [] rfl, decode_escape 0x86 [] rfl, decode_escape 0xDF [] rfl,
    decode_imm16 rfl 0x50 0x01 [], decode_imm8 rfl 0xFB [], decode_imm16 rfl 0x00 0x20 [], decode_done rfl [],
    decode_done rfl [], decode_done rfl [], decode_done rfl []⟩

/-- Settles O33: each row is the shared load with the operand its field names. -/
theorem loadRegister : Obligations.LoadRegister := by
  refine ⟨fun dst r s => ⟨encode_ldInstr _ _, ?_⟩, fun dst s v => ⟨?_, fun h => ?_⟩,
    fun dst n s => ⟨encode_ldImmInstr _ n, ?_⟩⟩
  · have hread : getR8 (.reg r) (charged 4 s) = .ok (s.getReg r) := congrArg Except.ok (getReg_charged 4 r s)
    exact (exec_ldInstr_reg_reg s dst r).trans (instr_loadR8_reg dst hread)
  · have hcode : 0x40 + 8 * (R8.reg dst).code + R8.atHL.code = 0x46 + 8 * (R8.reg dst).code := Nat.add_right_comm _ _ _
    rw [encode_ldInstr, hcode]
  · have hread : getR8 (.mem s.hl) (charged 8 s) = .ok v := getR8_mem_ok.2 ((peek8_charged 8 s.hl s).trans h)
    exact (exec_ldInstr_reg_atHL s dst).trans (instr_loadR8_reg dst hread)
  · exact (exec_ldImmInstr_reg s dst n).trans (instr_loadImm_reg dst n)

/-- Settles O34: each row is the shared load with the byte at HL as its destination. -/
theorem storeThroughHL : Obligations.StoreThroughHL :=
  ⟨fun r s _ => ⟨encode_ldInstr .atHL (.reg r), fun h => (exec_ldInstr_atHL_reg s r).trans (instr_loadR8_mem r h)⟩,
    fun n s _ => ⟨rfl, fun h => (exec_ldImmInstr_atHL s n).trans (instr_loadImm_mem h)⟩⟩

/-- Settles O35: each row is the shared load of A at its address. -/
theorem loadAccumulator : Obligations.LoadAccumulator := by
  intro s v n nn
  simp only [← highPage_eq_ofNat]
  exact ⟨rfl, rfl, rfl, rfl, rfl, instr_loadA, instr_loadA, instr_loadA, instr_loadA, instr_loadA⟩

/-- Settles O36: each row is the shared store of A at its address. -/
theorem storeAccumulator : Obligations.StoreAccumulator := by
  intro s t n nn
  simp only [← highPage_eq_ofNat]
  exact ⟨rfl, rfl, rfl, rfl, rfl, instr_storeA, instr_storeA, instr_storeA, instr_storeA, instr_storeA⟩

/-- Settles O37: each row is the shared access at the HL of before, with its move of HL. -/
theorem autoIndex : Obligations.AutoIndex := by
  intro s t v
  exact ⟨rfl, rfl, rfl, rfl, fun h => ⟨instr_loadAStep h, instr_loadAStep h⟩,
    fun h => ⟨instr_storeAStep h, instr_storeAStep h⟩⟩

end Sys2Proof
end

section
/-! SUPPORT. The 16-bit loads and the stack (42_loads16_stack.md): what a push and a pop do where their accesses are accepted, that
a pop reads what a push left (R241), the next state of each shared body, and the sum of LD HL,SP+e in exact arithmetic. -/

namespace Sys2Proof.Machine

open Host

/-! ### The push and the pop (R240, R241) -/

theorem poke8_pc {a : Word} {v : Byte} {s t : State} (h : poke8 a v s = some t) : t.pc = s.pc := by
  rw [poke8_frame h]

/-- A store does not depend on SP and keeps it. -/
theorem poke8_setSP {a x : Word} {v : Byte} {s t : State} (h : poke8 a v s = some t) :
    poke8 a v (s.setSP x) = some (t.setSP x) := by
  rw [poke8_congr (s := s) (t := s.setSP x) rfl rfl rfl, h, poke8_frame h]
  rfl

theorem sub_one_sub_one (x : Word) : x - 1 - 1 = x - 2 := sub_sub x 1 1

/-- A push whose two stores are accepted (R240). -/
theorem push16_of_poke8 {v : Word} {s t u : State} (ht : poke8 (s.sp - 1) (hi8 v) s = some t)
    (hu : poke8 (s.sp - 2) (lo8 v) t = some u) : push16 v s = .ok (u.setSP (s.sp - 2)) := by
  refine push16_ok.2 ⟨t.setSP (s.sp - 1), poke8_setSP ht, ?_⟩
  rw [sub_one_sub_one]
  exact poke8_setSP (s := t) (t := u) hu

/-- A pop whose two bytes can be read (R241). -/
theorem pop16_of_peek8 {s : State} {lo hi : Byte} (hlo : peek8 s.sp s = some lo) (hhi : peek8 (s.sp + 1) s = some hi) :
    pop16 s = .ok (join hi lo, s.setSP (s.sp + 2)) :=
  pop16_ok.2 ⟨lo, hi, hlo, hhi, rfl, congrArg s.setSP (add_assoc s.sp 1 1).symm⟩

theorem sameStorage_symm {cfg : Config} {a b : Word} (h : sameStorage cfg a b) : sameStorage cfg b a :=
  h.imp Eq.symm fun ⟨hmirror, hfar⟩ => ⟨hmirror, hfar.symm⟩

/-- After a push off the IE cell the low byte is at the new SP and the high byte above it (R240). -/
theorem push16_lays_down {v : Word} {s u : State} (hi : StorageInv s) (hhigh : s.sp - 1 ≠ 0xFFFF) (hlow : s.sp - 2 ≠ 0xFFFF)
    (h : push16 v s = .ok u) : u.sp = s.sp - 2 ∧ peek8 (s.sp - 2) u = some (lo8 v) ∧ peek8 (s.sp - 1) u = some (hi8 v) := by
  obtain ⟨t, ht, hu⟩ := push16_ok.1 h
  rw [sub_one_sub_one] at hu
  have hi' : StorageInv (s.setSP (s.sp - 1)) := StorageInv_congr rfl rfl hi
  have hit : StorageInv t := poke8_inv ht hi'
  have hit' : StorageInv (t.setSP (s.sp - 2)) := StorageInv_congr rfl rfl hit
  refine ⟨?_, peek8_poke8_of_ne hit' hlow hu, ?_⟩
  · rw [poke8_frame hu]
    rfl
  · have happ : ¬ sameStorage t.cfg (s.sp - 1) (s.sp - 2) := by
      have hsucc : s.sp - 1 = s.sp - 2 + 1 := by bv_omega
      rw [hsucc]
      exact fun h => not_sameStorage_succ _ _ (sameStorage_symm h)
    calc peek8 (s.sp - 1) u = peek8 (s.sp - 1) (t.setSP (s.sp - 2)) := poke8_other hu happ
      _ = peek8 (s.sp - 1) t := peek8_congr rfl rfl rfl _
      _ = some (hi8 v) := peek8_poke8_of_ne hi' hhigh ht

/-- A pop gives back what was pushed and moves SP back, in any state with the SP and the storage the push left (R241). -/
theorem pop16_after_push16 {v w : Word} {s u r x : State} (hi : StorageInv s) (hhigh : s.sp - 1 ≠ 0xFFFF)
    (hlow : s.sp - 2 ≠ 0xFFFF) (hpush : push16 v s = .ok u) (hsp : r.sp = u.sp) (hmem : r.mem = u.mem) (hie : r.ie = u.ie)
    (hcfg : r.cfg = u.cfg) (hpop : pop16 r = .ok (w, x)) : w = v ∧ x = r.setSP s.sp := by
  obtain ⟨husp, hlo, hhi⟩ := push16_lays_down hi hhigh hlow hpush
  have hr : r.sp = s.sp - 2 := hsp.trans husp
  have hback : pop16 r = .ok (v, r.setSP s.sp) := by
    rw [← peek8_congr hmem hie hcfg, ← hr] at hlo
    have hup : s.sp - 1 = r.sp + 1 := by rw [hr]; bv_omega
    rw [← peek8_congr hmem hie hcfg, hup] at hhi
    have htop : r.sp + 2 = s.sp := by rw [hr]; bv_omega
    rw [pop16_of_peek8 hlo hhi, join_hi8_lo8, htop]
  cases hback.symm.trans hpop
  exact ⟨rfl, rfl⟩

/-! ### The pairs of the stack -/

@[simp] theorem getStackPair_charged (n : Nat) (q : StackPair) (s : State) :
    (charged n s).getStackPair q = s.getStackPair q := by cases q <;> rfl

@[simp] theorem getStackPair_setPC (q : StackPair) (s : State) (x : Word) :
    (s.setPC x).getStackPair q = s.getStackPair q := by cases q <;> rfl

theorem setBC_join (s : State) (hi lo : Byte) : s.setBC (join hi lo) = { s with b := hi, c := lo } := by
  rw [State.setBC, hi8_join, lo8_join]

theorem setDE_join (s : State) (hi lo : Byte) : s.setDE (join hi lo) = { s with d := hi, e := lo } := by
  rw [State.setDE, hi8_join, lo8_join]

theorem setHL_join (s : State) (hi lo : Byte) : s.setHL (join hi lo) = { s with h := hi, l := lo } := by
  rw [State.setHL, hi8_join, lo8_join]

theorem setAF_join (s : State) (hi lo : Byte) : s.setAF (join hi lo) = { s.setFByte lo with a := hi } := by
  rw [State.setAF, hi8_join, lo8_join]

/-- The low nibble of F is zero (R32). -/
theorem fByte_and_F0 (s : State) : s.fByte &&& 0xF0 = s.fByte := by
  unfold State.fByte
  cases s.flagZ <;> cases s.flagN <;> cases s.flagH <;> cases s.flagC <;> rfl

/-- What AF reads as loses nothing when it is written back (R33). -/
theorem af_and_FFF0 (s : State) : s.af &&& 0xFFF0 = s.af := by
  have hmask : (0xFFF0 : Word) = join 0xFF 0xF0 := rfl
  have hhigh : s.a &&& 0xFF = s.a := BitVec.and_allOnes
  rw [State.af, hmask, join_and, fByte_and_F0, hhigh]

/-- A value that a pair held reads back where it is written to that pair (R38), AF included. -/
theorem getStackPair_setStackPair_getStackPair (q : StackPair) (s x : State) :
    (x.setStackPair q (s.getStackPair q)).getStackPair q = s.getStackPair q := by
  cases q with
  | bc => exact x.getPair_setPair .bc s.bc
  | de => exact x.getPair_setPair .de s.de
  | hl => exact x.getPair_setPair .hl s.hl
  | af => exact (x.af_setAF s.af).trans (af_and_FFF0 s)

/-! ### The sum of LD HL,SP+e (R166, R172) -/

theorem signedDisp_eq_toInt (e : Byte) : signedDisp e = e.toInt := by
  rw [signedDisp, BitVec.toInt_eq_toNat_cond]
  split <;> split <;> omega

theorem addE_r (v : Word) (e : Byte) : (addE v e).r = BitVec.ofInt 16 (v.toNat + signedDisp e) := by
  rw [BitVec.ofInt_add, BitVec.ofInt_natCast, BitVec.ofNat_toNat, BitVec.setWidth_eq, signedDisp_eq_toInt]
  rfl

theorem addE_h (v : Word) (e : Byte) : (addE v e).h = decide (v.toNat % 16 + e.toNat % 16 > 0x0F) := by
  have hlow : (v &&& 0x000F#16).toNat = v.toNat % 16 := Nat.and_two_pow_sub_one_eq_mod v.toNat 4
  rw [addE, hlow, nibble_eq_mod]

theorem addE_c (v : Word) (e : Byte) : (addE v e).c = decide (v.toNat % 256 + e.toNat > 0xFF) := by
  have hlow : (v &&& 0x00FF#16).toNat = v.toNat % 256 := Nat.and_two_pow_sub_one_eq_mod v.toNat 8
  rw [addE, hlow]

/-! ### The shared bodies -/

variable {k : Nat} {s t u : State}

/-- A push of a pair whose two stores are accepted (R246, R247). -/
theorem instr_pushPair (q : StackPair) (ht : poke8 (s.sp - 1) (hi8 (s.getStackPair q)) (charged k s) = some t)
    (hu : poke8 (s.sp - 2) (lo8 (s.getStackPair q)) t = some u) (hk : 0 < k := by decide) :
    instr k (pushPair q) s = .next { u with sp := s.sp - 2, pc := s.pc + 1 } := by
  have hpc : u.pc = s.pc := (poke8_pc hu).trans (pc_of_poke8_charged ht)
  rw [← hpc]
  rw [← getStackPair_charged k] at ht hu
  exact instr_of_charged_ok (bind_ok.2 ⟨_, push16_of_poke8 (s := charged k s) ht hu, rfl⟩) hk

/-- A pop of a pair whose two bytes can be read (R248, R249). -/
theorem instr_popPair (q : StackPair) {lo hi : Byte} (hlo : peek8 s.sp s = some lo) (hhi : peek8 (s.sp + 1) s = some hi)
    (hk : 0 < k := by decide) :
    instr k (popPair q) s = .next ((((charged k s).setSP (s.sp + 2)).setStackPair q (join hi lo)).setPC (s.pc + 1)) := by
  have hpc : (((charged k s).setSP (s.sp + 2)).setStackPair q (join hi lo)).pc = s.pc := State.setStackPair_pc _ q _
  rw [← hpc]
  rw [← peek8_charged k] at hlo hhi
  exact instr_of_charged_ok (bind_ok.2 ⟨_, pop16_of_peek8 (s := charged k s) hlo hhi, rfl⟩) hk

/-- A store of SP whose two bytes are accepted (R243). -/
theorem instr_storeSP {ea : Word} (ht : poke8 ea (lo8 s.sp) (charged k s) = some t)
    (hu : poke8 (ea + 1) (hi8 s.sp) t = some u) (hk : 0 < k := by decide) :
    instr k (storeSP ea) s = .next { u with pc := s.pc + 3 } := by
  have hpc : u.pc = s.pc := (poke8_pc hu).trans (pc_of_poke8_charged ht)
  rw [← hpc]
  exact instr_of_charged_ok (bind_ok.2 ⟨u, memWrite16_ok.2 ⟨t, ht, hu⟩, rfl⟩) hk

/-- HL and the flags after LD HL,SP+e (R245). -/
theorem instr_loadHLSPDisp (e : Byte) (hk : 0 < k := by decide) :
    instr k (loadHLSPDisp e) s = .next ((((charged k s).setHL (BitVec.ofInt 16 (s.sp.toNat + signedDisp e))).setFlags false false
      (decide (s.sp.toNat % 16 + e.toNat % 16 > 0x0F)) (decide (s.sp.toNat % 256 + e.toNat > 0xFF))).setPC (s.pc + 2)) := by
  rw [← addE_r, ← addE_h, ← addE_c]
  exact instr_of_charged_ok rfl hk

end Sys2Proof.Machine

namespace Sys2Proof

open Machine Host

/-- An instruction that completes has run its body to the end. -/
theorem Completes.body_ok {i : Instr} {s t : State} {n : Nat} {body : State → Except Fault State} (h : Completes i s t)
    (hi : exec i s = instr n body s) (hn : 0 < n := by decide) : body (charged n s) = .ok t := by
  obtain ⟨-, hexec, hlive⟩ := h
  rcases exec_instr_cases hi id hexec hn with hok | ⟨f, rfl⟩
  · exact hok
  · exact absurd hlive (s.raise_run_ne f)

/-- Settles O38: each row is its shared body, with no access but the two stores of SP. -/
theorem loadPairStoreSP : Obligations.LoadPairStoreSP := by
  intro s t u nn
  have load (p : Pair) : exec (ldPairInstr p nn) s = .next (((charged 12 s).setPair p nn).advance 3) :=
    (exec_ldPairInstr s p nn).trans (instr_of_charged_ok rfl)
  exact ⟨rfl, rfl, rfl, rfl, rfl, load .bc, load .de, load .hl, load .sp,
    instr_of_charged_ok (body := loadSPHL) rfl, rfl, instr_storeSP⟩

/-- Settles O39: the signed sum is SP plus the sign-extended byte, and the masks of the low-byte add are remainders. -/
theorem loadHLFromSP : Obligations.LoadHLFromSP :=
  fun _ e => ⟨rfl, instr_loadHLSPDisp e⟩

/-- Settles O40: each row is the shared push of its pair. -/
theorem pushPair : Obligations.PushPair := by
  intro s t u q
  exact ⟨by cases q <;> rfl, fun ht hu => (exec_pushInstr s q).trans (instr_pushPair q ht hu)⟩

/-- Settles O41: each row is the shared pop of its pair, and the popped word's halves are the two bytes. -/
theorem popPair : Obligations.PopPair := by
  intro s lo hi
  refine ⟨fun q => by cases q <;> rfl, fun hlo hhi => ?_⟩
  have pop (q : StackPair) := (exec_popInstr s q).trans (instr_popPair q hlo hhi)
  refine ⟨(pop .bc).trans ?_, (pop .de).trans ?_, (pop .hl).trans ?_, (pop .af).trans ?_⟩
  · rw [State.setStackPair, setBC_join]; rfl
  · rw [State.setStackPair, setDE_join]; rfl
  · rw [State.setStackPair, setHL_join]; rfl
  · rw [State.setStackPair, setAF_join]; rfl

/-- Settles O42: the pop finds the pushed word, and the pair takes all of it because it is the pair's own value. -/
theorem pushThenPop : Obligations.PushThenPop := by
  intro s t u q hinv hhigh hlow hpush hpop
  obtain ⟨x, hx, ht⟩ := bind_ok.1 (hpush.body_ok (exec_pushInstr s q))
  obtain ⟨⟨w, y⟩, hy, hu⟩ := bind_ok.1 (hpop.body_ok (exec_popInstr t q))
  cases ht
  cases hu
  obtain ⟨rfl, rfl⟩ := pop16_after_push16 (s := charged 16 s) (r := charged 12 (x.advance 1)) (StorageInv_congr rfl rfl hinv)
    hhigh hlow hx rfl rfl rfl rfl hy
  rw [State.advance, getStackPair_setPC, getStackPair_charged]
  exact ⟨getStackPair_setStackPair_getStackPair q s _, State.setStackPair_sp _ q _⟩

/-- Settles O59: RET pops the return address that CALL pushed. -/
theorem callThenReturn : Obligations.CallThenReturn := by
  intro s t r u nn hinv hhigh hlow hcall hsp hmem hie hcfg hret
  obtain ⟨x, hx, ht⟩ := bind_ok.1 (hcall.body_ok (body := callTo nn) rfl)
  obtain ⟨⟨w, y⟩, hy, hu⟩ := bind_ok.1 (hret.body_ok (body := returnBody) rfl)
  cases ht
  cases hu
  obtain ⟨rfl, rfl⟩ := pop16_after_push16 (s := charged 24 s) (r := charged 16 r) (StorageInv_congr rfl rfl hinv) hhigh hlow
    hx hsp hmem hie hcfg hy
  exact ⟨rfl, rfl⟩

end Sys2Proof
end

section
/-! SUPPORT. The 8-bit arithmetic family (43_alu8.md): what each ALU operation makes of A and F in exact arithmetic, the next state
of each shared body with the cost charged and pc moved, and the bytes of the rows. -/

namespace Sys2Proof

open Machine

/-- A and F after an ALU operation with `v`, as the rules of its rows say (R270 to R293). -/
def AluOp.result (op : AluOp) (v : Byte) (s : State) : State :=
  match op with
  | .add => added v false s
  | .adc => added v s.flagC s
  | .sub => subtracted v false s
  | .sbc => subtracted v s.flagC s
  | .and => logicResult (s.a &&& v) true s
  | .xor => logicResult (s.a ^^^ v) false s
  | .or => logicResult (s.a ||| v) false s
  | .cp => compared v s

/-- No ALU operation moves pc. -/
theorem AluOp.result_pc (op : AluOp) (v : Byte) (s : State) : (op.result v s).pc = s.pc := by
  cases op <;> rfl

end Sys2Proof

namespace Sys2Proof.Machine

open Host

/-! ### The ALU operations -/

/-- A and F written with a logic result and its half-carry constant (R282 to R290). -/
theorem set_logic (r : Byte) (half : Bool) (s : State) :
    (s.setReg .a r).setFlags (r == 0#8) false half false = logicResult r half s := by
  rw [beq_zero_eq_decide_toNat]
  rfl

/-- F written with what `sub8` puts out, and A kept (R291). -/
theorem setFlags_sub8 (v : Byte) (s : State) :
    s.setFlags (sub8 s.a v false).z true (sub8 s.a v false).h (sub8 s.a v false).c = compared v s := by
  rw [compared, ← set_sub8]
  rfl

/-- The model's ALU operation has the result of its rule. -/
theorem aluApply_eq_result (op : AluOp) (v : Byte) (s : State) : aluApply op v s = op.result v s := by
  cases op with
  | add => exact aluApply_add v s
  | adc => exact set_add8 v s.flagC s
  | sub => exact aluApply_sub v s
  | sbc => exact set_sub8 v s.flagC s
  | and => exact set_logic (s.a &&& v) true s
  | xor => exact set_logic (s.a ^^^ v) false s
  | or => exact set_logic (s.a ||| v) false s
  | cp => exact setFlags_sub8 v s

variable {k : Nat} {p : Place} {v : Byte} {s t : State}

/-- An ALU operation on the operand that reads as `v`. -/
theorem instr_aluR8 (op : AluOp) (h : getR8 p (charged k s) = .ok v) (hk : 0 < k := by decide) :
    instr k (aluR8 op p) s = .next ((op.result v (charged k s)).setPC (s.pc + 1)) := by
  have hpc : (op.result v (charged k s)).pc = s.pc := op.result_pc v _
  rw [← hpc, ← aluApply_eq_result]
  exact instr_of_charged_ok (bind_ok.2 ⟨v, h, rfl⟩) hk

/-- An ALU operation on the instruction's own byte. -/
theorem instr_aluImm (op : AluOp) (n : Byte) (hk : 0 < k := by decide) :
    instr k (aluImm op n) s = .next ((op.result n (charged k s)).setPC (s.pc + 2)) := by
  have hpc : (op.result n (charged k s)).pc = s.pc := op.result_pc n _
  rw [← hpc, ← aluApply_eq_result]
  exact instr_of_charged_ok rfl hk

/-! ### INC and DEC -/

theorem add8_one_r (v : Byte) : (add8 v 1 false).r = v + 1 :=
  BitVec.eq_of_toNat_eq (by simp [add8, BitVec.toNat_add])

theorem add8_one_z (v : Byte) : (add8 v 1 false).z = decide (v = 0xFF) := by
  have hz : (add8 v 1 false).z = decide ((add8 v 1 false).r = 0#8) := beq_eq_decide _ _
  rw [hz, add8_one_r, decide_eq_decide]
  bv_omega

/-- A carry out of bit 3 is a low digit of 15 (R161). -/
theorem add8_one_h (v : Byte) : (add8 v 1 false).h = decide (v.toNat % 16 = 0x0F) := by
  have hone : (1 : Byte).toNat = 1 := rfl
  simp only [add8, nibble_eq_mod, hone, Bool.toNat_false, decide_eq_decide]
  omega

theorem sub8_one_r (v : Byte) : (sub8 v 1 false).r = v - 1 :=
  BitVec.eq_of_toNat_eq (by rw [sub8_toNat, BitVec.toNat_sub]; simp)

theorem sub8_one_z (v : Byte) : (sub8 v 1 false).z = decide (v = 0x01) := by
  have hz : (sub8 v 1 false).z = decide ((sub8 v 1 false).r = 0#8) := beq_eq_decide _ _
  rw [hz, sub8_one_r, decide_eq_decide]
  bv_omega

/-- A borrow into bit 4 is a low digit of 0 (R162). -/
theorem sub8_one_h (v : Byte) : (sub8 v 1 false).h = decide (v.toNat % 16 = 0x00) := by
  have hone : (1 : Byte).toNat = 1 := rfl
  simp only [sub8, nibble_eq_mod, hone, Bool.toNat_false, decide_eq_decide]
  omega

/-- A write of an operand by the body leaves pc at the instruction. -/
theorem pc_of_setR8_charged (h : setR8 p v (charged k s) = .ok t) : t.pc = s.pc := by
  cases p with
  | reg r =>
    cases h
    exact (charged k s).setReg_pc r v
  | mem a => exact pc_of_poke8_charged (setR8_mem_ok.1 h)

/-- INC of the operand that reads as `v` and takes `v + 1` (R294, R295). -/
theorem instr_incR8 (hread : getR8 p (charged k s) = .ok v) (hwrite : setR8 p (v + 1) (charged k s) = .ok t)
    (hk : 0 < k := by decide) : instr k (incR8 p) s =
      .next ((t.setZNH (decide (v = 0xFF)) false (decide (v.toNat % 16 = 0x0F))).setPC (s.pc + 1)) := by
  have hpc : t.pc = s.pc := pc_of_setR8_charged hwrite
  rw [← hpc, ← add8_one_z, ← add8_one_h]
  rw [← add8_one_r] at hwrite
  exact instr_of_charged_ok (bind_ok.2 ⟨v, hread, bind_ok.2 ⟨t, hwrite, rfl⟩⟩) hk

/-- DEC of the operand that reads as `v` and takes `v - 1` (R296, R297). -/
theorem instr_decR8 (hread : getR8 p (charged k s) = .ok v) (hwrite : setR8 p (v - 1) (charged k s) = .ok t)
    (hk : 0 < k := by decide) : instr k (decR8 p) s =
      .next ((t.setZNH (decide (v = 0x01)) true (decide (v.toNat % 16 = 0x00))).setPC (s.pc + 1)) := by
  have hpc : t.pc = s.pc := pc_of_setR8_charged hwrite
  rw [← hpc, ← sub8_one_z, ← sub8_one_h]
  rw [← sub8_one_r] at hwrite
  exact instr_of_charged_ok (bind_ok.2 ⟨v, hread, bind_ok.2 ⟨t, hwrite, rfl⟩⟩) hk

/-- A register reads the same after CHARGE. -/
theorem getR8_reg_charged (k : Nat) (r : Reg8) (s : State) : getR8 (.reg r) (charged k s) = .ok (s.getReg r) :=
  congrArg Except.ok (getReg_charged k r s)

/-- A byte that can be read reads the same after CHARGE. -/
theorem getR8_mem_charged {ea : Word} (k : Nat) (h : peek8 ea s = some v) : getR8 (.mem ea) (charged k s) = .ok v :=
  getR8_mem_ok.2 ((peek8_charged k ea s).trans h)

end Sys2Proof.Machine

namespace Sys2Proof

open Machine Host

/-! ### The bytes -/

/-- The bytes of the ALU block by the codes of its two fields (R121). -/
theorem encode_aluInstr (op : AluOp) (r : R8) :
    encode (aluInstr op r) = [BitVec.ofNat 8 (0x80 + 8 * op.code + r.code)] := by
  cases op <;> rcases r with ⟨⟨⟩⟩ | _ <;> rfl

/-- The bytes of INC r by the code of the field (R122). -/
theorem encode_incInstr (r : R8) : encode (incInstr r) = [BitVec.ofNat 8 (0x04 + 8 * r.code)] := by
  rcases r with ⟨⟨⟩⟩ | _ <;> rfl

/-- The bytes of DEC r by the code of the field (R122). -/
theorem encode_decInstr (r : R8) : encode (decInstr r) = [BitVec.ofNat 8 (0x05 + 8 * r.code)] := by
  rcases r with ⟨⟨⟩⟩ | _ <;> rfl

/-! ### The ALU rows by their operands -/

theorem exec_aluInstr_reg_next (op : AluOp) (r : Reg8) (s : State) :
    exec (aluInstr op (.reg r)) s = .next ((op.result (s.getReg r) (charged 4 s)).setPC (s.pc + 1)) :=
  (exec_aluInstr_reg s op r).trans (instr_aluR8 op (getR8_reg_charged 4 r s))

theorem exec_aluInstr_atHL_next (op : AluOp) {s : State} {v : Byte} (h : peek8 s.hl s = some v) :
    exec (aluInstr op .atHL) s = .next ((op.result v (charged 8 s)).setPC (s.pc + 1)) :=
  (exec_aluInstr_atHL s op).trans (instr_aluR8 op (getR8_mem_charged 8 h))

theorem exec_aluImmInstr_result (op : AluOp) (n : Byte) (s : State) :
    exec (aluImmInstr op n) s = .next ((op.result n (charged 8 s)).setPC (s.pc + 2)) :=
  (exec_aluImmInstr s op n).trans (instr_aluImm op n)

/-! ### The statements -/

/-- Settles O43: each row is its operation's result on the operand it reads. -/
theorem addToAccumulator : Obligations.AddToAccumulator :=
  ⟨fun r s => ⟨encode_aluInstr .add (.reg r), encode_aluInstr .adc (.reg r),
      exec_aluInstr_reg_next .add r s, exec_aluInstr_reg_next .adc r s⟩,
    fun _ _ => ⟨rfl, rfl, fun h => ⟨exec_aluInstr_atHL_next .add h, exec_aluInstr_atHL_next .adc h⟩⟩,
    fun s n => ⟨rfl, rfl, exec_aluImmInstr_result .add n s, exec_aluImmInstr_result .adc n s⟩⟩

/-- Settles O44: each row is its operation's result on the operand it reads, and CP's keeps A. -/
theorem subtractFromAccumulator : Obligations.SubtractFromAccumulator :=
  ⟨fun r s => ⟨encode_aluInstr .sub (.reg r), encode_aluInstr .sbc (.reg r), encode_aluInstr .cp (.reg r),
      exec_aluInstr_reg_next .sub r s, exec_aluInstr_reg_next .sbc r s, exec_aluInstr_reg_next .cp r s⟩,
    fun _ _ => ⟨rfl, rfl, rfl, fun h =>
      ⟨exec_aluInstr_atHL_next .sub h, exec_aluInstr_atHL_next .sbc h, exec_aluInstr_atHL_next .cp h⟩⟩,
    fun s n => ⟨rfl, rfl, rfl,
      exec_aluImmInstr_result .sub n s, exec_aluImmInstr_result .sbc n s, exec_aluImmInstr_result .cp n s⟩⟩

/-- Settles O45: each row is its operation's result on the operand it reads. -/
theorem logicOnAccumulator : Obligations.LogicOnAccumulator :=
  ⟨fun r s => ⟨encode_aluInstr .and (.reg r), encode_aluInstr .xor (.reg r), encode_aluInstr .or (.reg r),
      exec_aluInstr_reg_next .and r s, exec_aluInstr_reg_next .xor r s, exec_aluInstr_reg_next .or r s⟩,
    fun _ _ => ⟨rfl, rfl, rfl, fun h =>
      ⟨exec_aluInstr_atHL_next .and h, exec_aluInstr_atHL_next .xor h, exec_aluInstr_atHL_next .or h⟩⟩,
    fun s n => ⟨rfl, rfl, rfl,
      exec_aluImmInstr_result .and n s, exec_aluImmInstr_result .xor n s, exec_aluImmInstr_result .or n s⟩⟩

/-- Settles O46: a register always takes the result, and the byte at HL does where the store is accepted. -/
theorem incrementDecrement8 : Obligations.IncrementDecrement8 := by
  refine ⟨fun r s => ⟨encode_incInstr _, encode_decInstr _, ?_, ?_⟩,
    fun s t v => ⟨rfl, rfl, fun h => ⟨fun ht => ?_, fun ht => ?_⟩⟩⟩
  · exact (exec_incInstr_reg s r).trans (instr_incR8 (getR8_reg_charged 4 r s) (setR8_reg r _ _))
  · exact (exec_decInstr_reg s r).trans (instr_decR8 (getR8_reg_charged 4 r s) (setR8_reg r _ _))
  · exact (exec_incInstr_atHL s).trans (instr_incR8 (getR8_mem_charged 12 h) (setR8_mem_ok.2 ht))
  · exact (exec_decInstr_atHL s).trans (instr_decR8 (getR8_mem_charged 12 h) (setR8_mem_ok.2 ht))

/-- Settles O47: DAA's value and carry are those of its correction, and the other three are their shared bodies. -/
theorem accumulatorAdjust : Obligations.AccumulatorAdjust := by
  intro s
  refine ⟨rfl, rfl, rfl, rfl, ?_, instr_of_charged_ok (body := cplBody) rfl, instr_of_charged_ok (body := scfBody) rfl,
    instr_of_charged_ok (body := ccfBody) rfl⟩
  rintro k rfl
  refine ⟨s.daa.1, daaEval_toNat s.a s.flagN s.flagH s.flagC, ?_⟩
  rw [exec_daa, beq_zero_eq_decide_toNat, ← daaEval_carry s.a s.flagN s.flagH s.flagC]
  rfl

end Sys2Proof
end

section
/-! SUPPORT. The 16-bit arithmetic family (44_alu16.md): the model's 16-bit sum and difference in exact arithmetic (40_alu_flags.md
R163, R164), the next state of each shared body with the cost charged and pc moved, and the bytes of the rows. -/

namespace Sys2Proof.Machine

open Host

/-! ### The sum and the difference (R163, R164) -/

theorem add16_r (a b : Word) : (add16 a b).r = a + b :=
  BitVec.eq_of_toNat_eq (by simp [add16, BitVec.toNat_add])

/-- A carry out of bit 11 is a sum of the low twelve bits that passes 0x0FFF. -/
theorem add16_h (a b : Word) : (add16 a b).h = decide (a.toNat % 4096 + b.toNat % 4096 > 0x0FFF) := by
  have hlow (v : Word) : (v &&& 0x0FFF#16).toNat = v.toNat % 4096 := Nat.and_two_pow_sub_one_eq_mod v.toNat 12
  rw [add16, hlow, hlow]

theorem sub16_r (a b : Word) : (sub16 a b).r = a - b := by
  refine BitVec.eq_of_toNat_eq ?_
  simp only [sub16, BitVec.toNat_ofInt, BitVec.toNat_sub]
  omega

/-! ### The shared bodies -/

variable {k : Nat} (p : Pair) (s : State)

@[simp] theorem getPair_charged (n : Nat) : (charged n s).getPair p = s.getPair p := by cases p <;> rfl

theorem advance_setPair_charged (v len : Word) :
    ((charged k s).setPair p v).advance len = ((charged k s).setPair p v).setPC (s.pc + len) := by
  rw [State.advance, State.setPair_pc]
  rfl

/-- INC of a pair (R311). -/
theorem instr_incPair (hk : 0 < k := by decide) :
    instr k (incPair p) s = .next (((charged k s).setPair p (s.getPair p + 1)).setPC (s.pc + 1)) := by
  rw [← advance_setPair_charged, ← getPair_charged p s k]
  exact instr_of_charged_ok rfl hk

/-- DEC of a pair (R312). -/
theorem instr_decPair (hk : 0 < k := by decide) :
    instr k (decPair p) s = .next (((charged k s).setPair p (s.getPair p - 1)).setPC (s.pc + 1)) := by
  rw [← advance_setPair_charged, ← getPair_charged p s k, ← sub16_r]
  exact instr_of_charged_ok rfl hk

/-- ADD of a pair to HL (R310): N, H and C are written, and Z is kept. -/
theorem instr_addHL (hk : 0 < k := by decide) :
    instr k (addHL p) s = .next ((((charged k s).setHL (s.hl + s.getPair p)).setNHC false
      (decide (s.hl.toNat % 4096 + (s.getPair p).toNat % 4096 > 0x0FFF))
      (decide (s.hl.toNat + (s.getPair p).toNat > 0xFFFF))).setPC (s.pc + 1)) := by
  rw [← add16_r, ← add16_h, ← getPair_charged p s k]
  exact instr_of_charged_ok rfl hk

end Sys2Proof.Machine

namespace Sys2Proof

open Machine

/-! ### The bytes -/

/-- The bytes of ADD HL,dd by the code of the field (R122). -/
theorem encode_addHlInstr (p : Pair) : encode (addHlInstr p) = [BitVec.ofNat 8 (0x09 + 16 * p.code)] := by
  cases p <;> rfl

/-- The bytes of INC dd by the code of the field (R122). -/
theorem encode_incPairInstr (p : Pair) : encode (incPairInstr p) = [BitVec.ofNat 8 (0x03 + 16 * p.code)] := by
  cases p <;> rfl

/-- The bytes of DEC dd by the code of the field (R122). -/
theorem encode_decPairInstr (p : Pair) : encode (decPairInstr p) = [BitVec.ofNat 8 (0x0B + 16 * p.code)] := by
  cases p <;> rfl

/-! ### The statement -/

/-- Settles O49: each row is its shared body, whose sum and difference are those of words and whose mask below bit 12
is a remainder. -/
theorem arithmetic16 : Obligations.Arithmetic16 := fun s p =>
  ⟨encode_addHlInstr p, encode_incPairInstr p, encode_decPairInstr p,
    (exec_incPairInstr s p).trans (instr_incPair p s), (exec_decPairInstr s p).trans (instr_decPair p s),
    (exec_addHlInstr s p).trans (instr_addHL p s)⟩

end Sys2Proof
end

section
/-! SUPPORT. The rotate, shift and bit family (45_rotate_shift_bit.md): the shifts and the single bits of a byte in exact arithmetic
(40_alu_flags.md R168, R169, R173), the next state of each shared body with the cost charged and pc moved, and the bytes of the
rows. -/

namespace Sys2Proof.Machine

/-! ### The shifts as numbers (R168, R169) -/

/-- A byte below 2^i fills the free low bits of a multiple of 2^i. -/
theorem or_toNat_of_dvd_of_lt {x y : Byte} (i : Nat) (hx : 2 ^ i ∣ x.toNat) (hy : y.toNat < 2 ^ i) :
    (x ||| y).toNat = x.toNat + y.toNat := by
  obtain ⟨a, ha⟩ := hx
  rw [BitVec.toNat_or, ha, Nat.two_pow_add_eq_or_of_lt hy]

theorem bitByte_toNat (x : Bool) : (bitByte x).toNat = x.toNat := by cases x <;> rfl

theorem bitByte_shiftLeft_toNat (x : Bool) : (bitByte x <<< 7).toNat = 128 * x.toNat := by cases x <;> rfl

theorem shiftLeft_one_toNat (v : Byte) : (v <<< 1).toNat = 2 * v.toNat % 256 := by
  rw [BitVec.toNat_shiftLeft, Nat.shiftLeft_eq, Nat.mul_comm, Nat.pow_one]

theorem shiftRight_one_toNat (v : Byte) : (v >>> 1).toNat = v.toNat / 2 := by
  rw [BitVec.toNat_ushiftRight, Nat.shiftRight_eq_div_pow, Nat.pow_one]

/-- A shift to the left with a bit moved in at bit 0. -/
theorem shiftLeft_or_bitByte_toNat (v : Byte) (x : Bool) :
    ((v <<< 1) ||| bitByte x).toNat = 2 * v.toNat % 256 + x.toNat := by
  have hbit := Bool.toNat_lt x
  rw [or_toNat_of_dvd_of_lt 1 (by rw [shiftLeft_one_toNat]; omega) (by rw [bitByte_toNat]; omega), shiftLeft_one_toNat,
    bitByte_toNat]

/-- A shift to the right with a bit moved in at bit 7. -/
theorem shiftRight_or_bitByte_toNat (v : Byte) (x : Bool) :
    ((v >>> 1) ||| (bitByte x <<< 7)).toNat = v.toNat / 2 + 128 * x.toNat := by
  have hv := v.isLt
  rw [BitVec.or_comm, or_toNat_of_dvd_of_lt 7 (by rw [bitByte_shiftLeft_toNat]; omega) (by rw [shiftRight_one_toNat]; omega),
    shiftRight_one_toNat, bitByte_shiftLeft_toNat, Nat.add_comm]

theorem swap8_toNat (v : Byte) : (swap8 v).toNat = 16 * (v.toNat % 16) + v.toNat / 16 := by
  have hv := v.isLt
  have hhigh : (v <<< 4).toNat = 16 * (v.toNat % 16) := by
    rw [BitVec.toNat_shiftLeft, Nat.shiftLeft_eq]
    omega
  have hlow : (v >>> 4).toNat = v.toNat / 16 := by rw [BitVec.toNat_ushiftRight, Nat.shiftRight_eq_div_pow]
  rw [swap8, or_toNat_of_dvd_of_lt 4 (by omega) (by omega), hhigh, hlow]

/-! ### The single bits (R173) -/

theorem bitTest_eq_decide (v : Byte) (b : Nat) : bitTest v b = decide (v.toNat / 2 ^ b % 2 = 1) :=
  Nat.testBit_eq_decide_div_mod_eq

theorem bitTest_toNat (v : Byte) (b : Nat) : (bitTest v b).toNat = v.toNat / 2 ^ b % 2 :=
  v.toNat.toNat_testBit b

theorem bitTest_seven (v : Byte) : bitTest v 7 = decide (v.toNat ≥ 128) := by
  have hv := v.isLt
  rw [bitTest_eq_decide, decide_eq_decide]
  omega

theorem bitTest_seven_toNat (v : Byte) : (bitTest v 7).toNat = v.toNat / 128 := by
  have hv := v.isLt
  rw [bitTest_toNat]
  omega

theorem bitTest_zero (v : Byte) : bitTest v 0 = decide (v.toNat % 2 = 1) := by
  rw [bitTest_eq_decide, Nat.pow_zero, Nat.div_one]

theorem bitTest_zero_toNat (v : Byte) : (bitTest v 0).toNat = v.toNat % 2 := by
  rw [bitTest_toNat, Nat.pow_zero, Nat.div_one]

/-- The arithmetic shift keeps bit 7 by its mask. -/
theorem and_0x80_eq (v : Byte) : v &&& 0x80#8 = bitByte (bitTest v 7) <<< 7 := by
  have hmask : v &&& 0x80#8 = if bitTest v 7 then 0x80#8 else 0x00#8 := BitVec.and_twoPow v 7
  rw [hmask]
  cases bitTest v 7 <;> rfl

/-! ### The rotates, shifts and SWAP -/

theorem eq_ofNat_of_toNat_eq {v : Byte} {n : Nat} (h : v.toNat = n) : v = BitVec.ofNat 8 n := by
  rw [← h, BitVec.ofNat_toNat, BitVec.setWidth_eq]

/-- Each operation makes the number its rule says. -/
theorem rotEval_toNat (op : RotOp) (v : Byte) (carry : Bool) : (rotEval op v carry).1.toNat = (shifted op v carry).1 := by
  cases op with
  | rlc => exact (shiftLeft_or_bitByte_toNat v (bitTest v 7)).trans (by rw [bitTest_seven_toNat]; rfl)
  | rrc => exact (shiftRight_or_bitByte_toNat v (bitTest v 0)).trans (by rw [bitTest_zero_toNat]; rfl)
  | rl => exact shiftLeft_or_bitByte_toNat v carry
  | rr => exact shiftRight_or_bitByte_toNat v carry
  | sla => exact shiftLeft_one_toNat v
  | sra =>
    have hkeep : (rotEval .sra v carry).1 = (v >>> 1) ||| (v &&& 0x80#8) := rfl
    rw [hkeep, and_0x80_eq, shiftRight_or_bitByte_toNat, bitTest_seven_toNat]
    rfl
  | swap => exact swap8_toNat v
  | srl => exact (congrArg BitVec.toNat BitVec.or_zero).trans (shiftRight_one_toNat v)

/-- Each operation moves out the bit its rule says. -/
theorem rotEval_carry (op : RotOp) (v : Byte) (carry : Bool) : (rotEval op v carry).2 = (shifted op v carry).2 := by
  cases op with
  | rlc | rl | sla => exact bitTest_seven v
  | rrc | rr | sra | srl => exact bitTest_zero v
  | swap => rfl

/-- The byte of an operation is its number narrowed, which loses nothing. -/
theorem rotEval_eq_ofNat (op : RotOp) (v : Byte) (carry : Bool) :
    (rotEval op v carry).1 = BitVec.ofNat 8 (shifted op v carry).1 :=
  eq_ofNat_of_toNat_eq (rotEval_toNat op v carry)

theorem rotEval_zero (op : RotOp) (v : Byte) (carry : Bool) :
    ((rotEval op v carry).1 == 0#8) = decide ((shifted op v carry).1 = 0) := by
  rw [beq_zero_eq_decide_toNat, rotEval_toNat]

/-! ### BIT, RES and SET -/

theorem not_bitTest_eq_decide (b : Idx3) (v : Byte) : (!bitTest v b.toNat) = decide (bitOf b v = 0) := by
  rw [bitTest_eq_decide, ← decide_not, decide_eq_decide, bitOf]
  omega

theorem bitMask_toNat (b : Idx3) : (bitMask b).toNat = 2 ^ b.toNat := by cases b <;> rfl

/-- The mask of one bit selects that bit. -/
theorem and_bitMask_toNat (b : Idx3) (v : Byte) : (v &&& bitMask b).toNat = 2 ^ b.toNat * bitOf b v := by
  rw [BitVec.toNat_and, bitMask_toNat, Nat.and_two_pow, Nat.toNat_testBit, Nat.mul_comm, bitOf]

/-- Bytes without a common bit join to their sum. -/
theorem or_toNat_of_and_eq_zero {x y : Byte} (h : x &&& y = 0#8) : (x ||| y).toNat = x.toNat + y.toNat := by
  rw [← BitVec.add_eq_or_of_and_eq_zero x y h, BitVec.toNat_add_of_and_eq_zero h]

/-- The bits outside a mask have none in common with it. -/
theorem and_not_and_self (v m : Byte) : (v &&& ~~~m) &&& m = 0#8 := by
  rw [BitVec.and_assoc, BitVec.and_comm (~~~m), BitVec.and_not_self]
  exact BitVec.and_zero

/-- A byte is its bits outside a mask and its bits in the mask. -/
theorem toNat_eq_outside_add_inside (v m : Byte) : v.toNat = (v &&& ~~~m).toNat + (v &&& m).toNat := by
  have hdisjoint : (v &&& ~~~m) &&& (v &&& m) = 0#8 := by
    rw [BitVec.and_comm v m, ← BitVec.and_assoc, and_not_and_self, BitVec.zero_and]
  have hjoin : (v &&& ~~~m) ||| (v &&& m) = v := by
    rw [← BitVec.and_or_distrib_left, BitVec.not_or_self, BitVec.and_allOnes]
  rw [← or_toNat_of_and_eq_zero hdisjoint, hjoin]

/-- To set the bits of a mask is to fill it beside the bits outside it. -/
theorem or_eq_outside_or (v m : Byte) : v ||| m = (v &&& ~~~m) ||| m := by
  ext i
  cases hv : v[i] <;> cases hm : m[i] <;> simp [hv, hm]

/-- RES takes from the number what its bit counts for. -/
theorem and_not_bitMask (b : Idx3) (v : Byte) :
    v &&& ~~~bitMask b = BitVec.ofNat 8 (v.toNat - 2 ^ b.toNat * bitOf b v) := by
  have hsplit := toNat_eq_outside_add_inside v (bitMask b)
  rw [and_bitMask_toNat] at hsplit
  exact eq_ofNat_of_toNat_eq (Nat.eq_sub_of_add_eq hsplit.symm)

/-- SET adds to the number what its bit counts for, where the bit is 0. -/
theorem or_bitMask (b : Idx3) (v : Byte) :
    v ||| bitMask b = BitVec.ofNat 8 (v.toNat + 2 ^ b.toNat * (1 - bitOf b v)) := by
  have hsplit := toNat_eq_outside_add_inside v (bitMask b)
  have hbit : bitOf b v ≤ 1 := Nat.le_of_lt_succ (Nat.mod_lt _ (by decide))
  have hle : 2 ^ b.toNat * bitOf b v ≤ 2 ^ b.toNat * 1 := Nat.mul_le_mul_left _ hbit
  rw [and_bitMask_toNat] at hsplit
  refine eq_ofNat_of_toNat_eq ?_
  rw [or_eq_outside_or, or_toNat_of_and_eq_zero (and_not_and_self v _), bitMask_toNat, Nat.mul_sub]
  omega

/-! ### The shared bodies -/

variable {k : Nat} {p : Place} {v : Byte} {s t : State}

/-- RLCA, RRCA, RLA and RRA (R330 to R333). -/
theorem instr_rotA (op : RotOp) (hk : 0 < k := by decide) :
    instr k (rotA op) s = .next ((((charged k s).setReg .a (BitVec.ofNat 8 (shifted op s.a s.flagC).1)).setFlags
      false false false (shifted op s.a s.flagC).2).setPC (s.pc + 1)) := by
  rw [← rotEval_eq_ofNat, ← rotEval_carry]
  exact instr_of_charged_ok rfl hk

/-- A rotate, shift or SWAP of the operand that reads as `v` and takes the result (R334 to R349). -/
theorem instr_rotR8 (op : RotOp) (hread : getR8 p (charged k s) = .ok v)
    (hwrite : setR8 p (BitVec.ofNat 8 (shifted op v s.flagC).1) (charged k s) = .ok t) (hk : 0 < k := by decide) :
    instr k (rotR8 op p) s = .next ((shiftFlags (shifted op v s.flagC) t).setPC (s.pc + 2)) := by
  have hpc : t.pc = s.pc := pc_of_setR8_charged hwrite
  rw [← hpc, shiftFlags, ← rotEval_zero, ← rotEval_carry]
  rw [← rotEval_eq_ofNat] at hwrite
  exact instr_of_charged_ok (bind_ok.2 ⟨v, hread, bind_ok.2 ⟨t, hwrite, rfl⟩⟩) hk

/-- BIT of the operand that reads as `v` (R350, R351). -/
theorem instr_bitR8 (b : Idx3) (hread : getR8 p (charged k s) = .ok v) (hk : 0 < k := by decide) :
    instr k (bitR8 b p) s = .next (((charged k s).setZNH (decide (bitOf b v = 0)) false true).setPC (s.pc + 2)) := by
  rw [← not_bitTest_eq_decide]
  exact instr_of_charged_ok (bind_ok.2 ⟨v, hread, rfl⟩) hk

/-- RES of the operand that reads as `v` and takes the result (R352, R353). -/
theorem instr_resR8 (b : Idx3) (hread : getR8 p (charged k s) = .ok v)
    (hwrite : setR8 p (BitVec.ofNat 8 (v.toNat - 2 ^ b.toNat * bitOf b v)) (charged k s) = .ok t) (hk : 0 < k := by decide) :
    instr k (resR8 b p) s = .next (t.setPC (s.pc + 2)) := by
  have hpc : t.pc = s.pc := pc_of_setR8_charged hwrite
  rw [← hpc]
  rw [← and_not_bitMask] at hwrite
  exact instr_of_charged_ok (bind_ok.2 ⟨v, hread, bind_ok.2 ⟨t, hwrite, rfl⟩⟩) hk

/-- SET of the operand that reads as `v` and takes the result (R354, R355). -/
theorem instr_setBitR8 (b : Idx3) (hread : getR8 p (charged k s) = .ok v)
    (hwrite : setR8 p (BitVec.ofNat 8 (v.toNat + 2 ^ b.toNat * (1 - bitOf b v))) (charged k s) = .ok t)
    (hk : 0 < k := by decide) : instr k (setBitR8 b p) s = .next (t.setPC (s.pc + 2)) := by
  have hpc : t.pc = s.pc := pc_of_setR8_charged hwrite
  rw [← hpc]
  rw [← or_bitMask] at hwrite
  exact instr_of_charged_ok (bind_ok.2 ⟨v, hread, bind_ok.2 ⟨t, hwrite, rfl⟩⟩) hk

end Sys2Proof.Machine

namespace Sys2Proof

open Machine Host

/-! ### The bytes -/

/-- The bytes of a rotate, shift or SWAP by the codes of its two fields (R125). -/
theorem encode_rotInstr (op : RotOp) (r : R8) :
    encode (rotInstr op r) = [0xCB, BitVec.ofNat 8 (8 * op.code + r.code)] := by
  cases op <;> rcases r with ⟨⟨⟩⟩ | _ <;> rfl

/-- The bytes of BIT b by its bit and the code of its operand (R125). -/
theorem encode_bitInstr (b : Idx3) (r : R8) :
    encode (bitInstr b r) = [0xCB, BitVec.ofNat 8 (0x40 + 8 * b.toNat + r.code)] := by
  cases b <;> rcases r with ⟨⟨⟩⟩ | _ <;> rfl

/-- The bytes of RES b by its bit and the code of its operand (R125). -/
theorem encode_resInstr (b : Idx3) (r : R8) :
    encode (resInstr b r) = [0xCB, BitVec.ofNat 8 (0x80 + 8 * b.toNat + r.code)] := by
  cases b <;> rcases r with ⟨⟨⟩⟩ | _ <;> rfl

/-- The bytes of SET b by its bit and the code of its operand (R125). -/
theorem encode_setInstr (b : Idx3) (r : R8) :
    encode (setInstr b r) = [0xCB, BitVec.ofNat 8 (0xC0 + 8 * b.toNat + r.code)] := by
  cases b <;> rcases r with ⟨⟨⟩⟩ | _ <;> rfl

/-! ### The statements -/

/-- Settles O50: each row is the shared rotate of A with its operation. -/
theorem rotateAccumulator : Obligations.RotateAccumulator := by
  intro s
  refine ⟨rfl, rfl, rfl, rfl, fun i op hrow => ?_⟩
  simp only [List.mem_cons, List.not_mem_nil, or_false, Prod.mk.injEq] at hrow
  obtain ⟨rfl, rfl⟩ | ⟨rfl, rfl⟩ | ⟨rfl, rfl⟩ | ⟨rfl, rfl⟩ := hrow <;> exact instr_rotA _

/-- Settles O51: a register always takes the result. -/
theorem rotateRegister : Obligations.RotateRegister := fun op r s =>
  ⟨encode_rotInstr op (.reg r),
    (exec_rotInstr_reg s op r).trans (instr_rotR8 op (getR8_reg_charged 8 r s) (setR8_reg r _ _))⟩

/-- Settles O52: the byte at HL takes the result where the store is accepted. -/
theorem rotateAtHL : Obligations.RotateAtHL := fun op s _ _ =>
  ⟨encode_rotInstr op .atHL, fun h ht =>
    (exec_rotInstr_atHL s op).trans (instr_rotR8 op (getR8_mem_charged 16 h) (setR8_mem_ok.2 ht))⟩

/-- Settles O53: each row is the shared test of the operand it reads. -/
theorem bitTest : Obligations.BitTest :=
  ⟨fun b r s => ⟨encode_bitInstr b (.reg r),
      (exec_bitInstr_reg s b r).trans (instr_bitR8 b (getR8_reg_charged 8 r s))⟩,
    fun b s _ => ⟨(encode_bitInstr b .atHL).trans (by cases b <;> rfl), fun h =>
      (exec_bitInstr_atHL s b).trans (instr_bitR8 b (getR8_mem_charged 12 h))⟩⟩

/-- Settles O54: a register always takes the result, and the byte at HL does where the store is accepted. -/
theorem bitResetSet : Obligations.BitResetSet := by
  refine ⟨fun b r s => ⟨encode_resInstr b (.reg r), encode_setInstr b (.reg r), ?_, ?_⟩,
    fun b s t v => ⟨(encode_resInstr b .atHL).trans (by cases b <;> rfl),
      (encode_setInstr b .atHL).trans (by cases b <;> rfl), fun h => ⟨fun ht => ?_, fun ht => ?_⟩⟩⟩
  · exact (exec_resInstr_reg s b r).trans (instr_resR8 b (getR8_reg_charged 8 r s) (setR8_reg r _ _))
  · exact (exec_setInstr_reg s b r).trans (instr_setBitR8 b (getR8_reg_charged 8 r s) (setR8_reg r _ _))
  · exact (exec_resInstr_atHL s b).trans (instr_resR8 b (getR8_mem_charged 16 h) (setR8_mem_ok.2 ht))
  · exact (exec_setInstr_atHL s b).trans (instr_setBitR8 b (getR8_mem_charged 16 h) (setR8_mem_ok.2 ht))

end Sys2Proof
end

section
/-! SUPPORT. Jumps, calls and returns (46_control.md): the target of a relative jump in exact arithmetic, the next state of each shared
body where its stack accesses are accepted, and the next state of a conditional row. -/

namespace Sys2Proof.Machine

open Host

/-! ### The conditions and the relative target (R171, R373) -/

theorem cond_nz_iff (s : State) : s.cond .nz = true ↔ s.flagZ = false :=
  iff_of_eq (Bool.not_eq_true' s.flagZ)

theorem cond_nc_iff (s : State) : s.cond .nc = true ↔ s.flagC = false :=
  iff_of_eq (Bool.not_eq_true' s.flagC)

/-- A word plus a sign-extended displacement is the exact sum modulo 2^16. -/
theorem add_sext16_eq_ofInt (v : Word) (e : Byte) : v + sext16 e = BitVec.ofInt 16 (v.toNat + signedDisp e) := addE_r v e

theorem ofInt_toNat_add (v : Word) (x y : Int) :
    BitVec.ofInt 16 (v.toNat + x + y) = BitVec.ofInt 16 ((v + BitVec.ofInt 16 x).toNat + y) := by
  simp only [BitVec.ofInt_add, BitVec.ofInt_natCast, BitVec.ofNat_toNat, BitVec.setWidth_eq]

/-- The target is the displacement added to the base `JR_TARGET_BASE` names, in exact arithmetic modulo 2^16. -/
theorem relTarget_eq_ofInt (s : State) (e : Byte) :
    s.relTarget e =
      BitVec.ofInt 16 ((s.pc.toNat : Int) + (if s.cfg.jrTargetBase = .next then 2 else 0) + signedDisp e) := by
  rw [State.relTarget, ofInt_toNat_add, ← add_sext16_eq_ofInt]
  cases s.cfg.jrTargetBase with
  | next => rfl
  | opcode => exact congrArg (· + sext16 e) (add_zero s.pc).symm

/-! ### The shared bodies -/

variable {k : Nat} {s t u : State} {lo hi : Byte}

/-- A conditional row both of whose bodies complete: its condition picks the next state (R482). -/
theorem instrIf_of_charged_ok {b : Bool} {m n : Nat} {taken notTaken : State → Except Fault State}
    (htaken : taken (charged m s) = .ok t) (hnot : notTaken (charged n s) = .ok u) (hm : 0 < m := by decide)
    (hn : 0 < n := by decide) : instrIf b m n taken notTaken s = .next (if b then t else u) := by
  cases b with
  | true => exact instr_of_charged_ok htaken hm
  | false => exact instr_of_charged_ok hnot hn

/-- A call whose two stores are accepted (R376). -/
theorem instr_callTo (nn : Word) (ht : poke8 (s.sp - 1) (hi8 (s.pc + 3)) (charged k s) = some t)
    (hu : poke8 (s.sp - 2) (lo8 (s.pc + 3)) t = some u) (hk : 0 < k := by decide) :
    instr k (callTo nn) s = .next { u with sp := s.sp - 2, pc := nn } :=
  instr_of_charged_ok (bind_ok.2 ⟨_, push16_of_poke8 (s := charged k s) ht hu, rfl⟩) hk

/-- A restart whose two stores are accepted (R381). -/
theorem instr_restart (v : Idx3) (ht : poke8 (s.sp - 1) (hi8 (s.pc + 1)) (charged k s) = some t)
    (hu : poke8 (s.sp - 2) (lo8 (s.pc + 1)) t = some u) (hk : 0 < k := by decide) :
    instr k (restart v) s = .next { u with sp := s.sp - 2, pc := BitVec.ofNat 16 (8 * v.toNat) } := by
  rw [Nat.mul_comm]
  exact instr_of_charged_ok (bind_ok.2 ⟨_, push16_of_poke8 (s := charged k s) ht hu, rfl⟩) hk

/-- A pop under CHARGE reads the stack of before it. -/
theorem pop16_charged (k : Nat) (hlo : peek8 s.sp s = some lo) (hhi : peek8 (s.sp + 1) s = some hi) :
    pop16 (charged k s) = .ok (join hi lo, (charged k s).setSP (s.sp + 2)) := by
  rw [← peek8_charged k] at hlo hhi
  exact pop16_of_peek8 (s := charged k s) hlo hhi

/-- A return whose two bytes can be read (R378). -/
theorem instr_returnBody (hlo : peek8 s.sp s = some lo) (hhi : peek8 (s.sp + 1) s = some hi) (hk : 0 < k := by decide) :
    instr k returnBody s = .next { charged k s with pc := join hi lo, sp := s.sp + 2 } :=
  instr_of_charged_ok (bind_ok.2 ⟨_, pop16_charged k hlo hhi, rfl⟩) hk

/-- A return from an interrupt whose two bytes can be read (R380). -/
theorem instr_retiBody (hlo : peek8 s.sp s = some lo) (hhi : peek8 (s.sp + 1) s = some hi) (hk : 0 < k := by decide) :
    instr k retiBody s = .next { charged k s with pc := join hi lo, sp := s.sp + 2, ime := true } :=
  instr_of_charged_ok (bind_ok.2 ⟨_, pop16_charged k hlo hhi, rfl⟩) hk

/-- A row that is not taken writes pc alone. -/
theorem instr_skip (len : Word) (hk : 0 < k := by decide) :
    instr k (skip len) s = .next { charged k s with pc := s.pc + len } :=
  instr_of_charged_ok rfl hk

end Sys2Proof.Machine

namespace Sys2Proof

open Machine Host

/-- Settles O56: the model's target is the exact sum modulo 2^16, taken or past the row. -/
theorem relativeJumps : Obligations.RelativeJumps := by
  rintro s e cc target rfl
  rw [← relTarget_eq_ofInt]
  exact ⟨rfl, by cases cc <;> rfl, instr_of_charged_ok (body := jumpRel e) rfl,
    (exec_jrCcInstr s cc e).trans (instrIf_of_charged_ok rfl rfl)⟩

/-- Settles O57: each row is the shared call or restart, and a condition that fails skips. -/
theorem calls : Obligations.Calls := by
  intro s t u nn cc k
  refine ⟨rfl, by cases cc <;> rfl, by cases k <;> rfl, fun ht hu => ⟨instr_callTo nn ht hu, fun hcond => ?_⟩,
    fun hcond => ?_, fun ht hu => (exec_rstInstr s k).trans (instr_restart k ht hu)⟩
  · rw [exec_callCcInstr, hcond, instrIf_true]
    exact instr_callTo nn ht hu
  · rw [exec_callCcInstr, hcond, instrIf_false]
    exact instr_skip 3

/-- Settles O58: each row is the shared return, and a condition that fails skips. -/
theorem returns : Obligations.Returns := by
  intro s lo hi cc
  refine ⟨rfl, rfl, by cases cc <;> rfl,
    fun hlo hhi => ⟨instr_returnBody hlo hhi, instr_retiBody hlo hhi, fun hcond => ?_⟩, fun hcond => ?_⟩
  · rw [exec_retCcInstr, hcond, instrIf_true]
    exact instr_returnBody hlo hhi
  · rw [exec_retCcInstr, hcond, instrIf_false]
    exact instr_skip 1

/-- Settles O55: each row is its shared jump, and the condition picks between it and the skip. -/
theorem jumps : Obligations.Jumps := by
  intro s nn cc
  exact ⟨cond_nz_iff s, Iff.rfl, cond_nc_iff s, Iff.rfl, rfl, rfl, by cases cc <;> rfl,
    instr_of_charged_ok (body := jumpTo nn) rfl, instr_of_charged_ok (body := jumpHL) rfl,
    (exec_jpCcInstr s cc nn).trans (instrIf_of_charged_ok rfl rfl)⟩

end Sys2Proof
end

section
/-! SUPPORT. The system family (47_system.md): the escape byte's row completes wherever the bus accepts its operand, and the
latches after an instruction in terms of the instruction itself. -/

namespace Sys2Proof

open Machine Host

/-! ### An operand the bus accepts -/

/-- A register is always accepted, and the byte at an address where the address is mapped (R76, R119). -/
def Place.Accepted (cfg : Config) : Place → Prop
  | .reg _ => True
  | .mem a => Mapped cfg a

variable {p : Place} {s : State}

/-- An accepted operand reads, and as the same byte whatever was charged. -/
theorem getR8_of_accepted (h : p.Accepted s.cfg) : ∃ v, ∀ k, getR8 p (charged k s) = .ok v := by
  cases p with
  | reg r => exact ⟨s.getReg r, fun k => getR8_reg_charged k r s⟩
  | mem a =>
    obtain ⟨v, hv⟩ := Option.isSome_iff_exists.1 (peek8_isSome_iff_mapped.2 h)
    exact ⟨v, fun k => getR8_mem_charged k hv⟩

/-- An accepted operand takes any byte, and RUN is not written. -/
theorem setR8_of_accepted (h : p.Accepted s.cfg) (k : Nat) (v : Byte) :
    ∃ t, setR8 p v (charged k s) = .ok t ∧ t.run = s.run := by
  cases p with
  | reg r => exact ⟨_, setR8_reg r v _, (charged k s).setReg_run r v⟩
  | mem a =>
    obtain ⟨t, ht⟩ := poke8_of_mapped (s := charged k s) v h
    exact ⟨t, setR8_mem_ok.2 ht, by rw [poke8_frame ht]; rfl⟩

/-- The operand of an `r` field is accepted if the address of (HL) is mapped where the code names (HL) (R114). -/
theorem accepted_place_r8OfCode {cfg : Config} {n : Nat} {ea : Word} (h : n = 6 → Mapped cfg ea) :
    ((r8OfCode n).place ea).Accepted cfg := by
  unfold r8OfCode
  split
  case h_7 => exact h rfl
  all_goals exact trivial

/-! ### The escape byte (R406) -/

theorem escapeCost_pos (r : R8) {n : Nat} (hn : 0 < n := by decide) : 0 < escapeCost r n := by
  cases r with
  | reg r => exact Nat.succ_pos 7
  | atHL => exact hn

/-- The escape byte's row completes two bytes on if its operand is accepted: each quarter of the escape table reads the operand,
and all but BIT store to it. -/
theorem runPrefixCB_completes {ea : Word} {op2 : Byte} (h : ((r8OfCode (op2.toNat % 8)).place ea).Accepted s.cfg) :
    ∃ t, runPrefixCB ea op2 s = .next t ∧ t.run = s.run ∧ t.pc = s.pc + 2 := by
  obtain ⟨v, hread⟩ := getR8_of_accepted h
  have hstore := setR8_of_accepted h
  unfold runPrefixCB
  generalize op2.toNat / 64 = quarter
  rcases quarter with _ | _ | _ | _
  · obtain ⟨t, hwrite, hrun⟩ := hstore _ _
    exact ⟨_, instr_rotR8 _ (hread _) hwrite (escapeCost_pos _), hrun, rfl⟩
  · exact ⟨_, instr_bitR8 _ (hread _) (escapeCost_pos _), rfl, rfl⟩
  · obtain ⟨t, hwrite, hrun⟩ := hstore _ _
    exact ⟨_, instr_resR8 _ (hread _) hwrite (escapeCost_pos _), hrun, rfl⟩
  · obtain ⟨t, hwrite, hrun⟩ := hstore _ _
    exact ⟨_, instr_setBitR8 _ (hread _) hwrite (escapeCost_pos _), hrun, rfl⟩

/-- Settles O10: 0xCB opens the escape table, whose row the escape byte's row runs. -/
theorem escapeByte : Obligations.EscapeByte :=
  ⟨fun op2 rest => decode_escape op2 rest rfl, exec_prefixCB,
    fun _ _ h => runPrefixCB_completes (accepted_place_r8OfCode h)⟩

/-! ### The latches (R401, R402, R380) -/

/-- A term and the instruction it stands for have the same bytes. -/
theorem encode_core (i : Instr) : encode i.core = encode i := by
  cases i with
  | prefixCB op2 => exact encode_escapeTable op2
  | _ => rfl

/-- A term stands for an instruction of one byte only by being it: the escape table's rows have two. -/
theorem core_eq_iff_of_length_one {j : Instr} (hj : (encode j).length = 1) (i : Instr) : i.core = j ↔ i = j := by
  cases i with
  | prefixCB op2 =>
    have two : (encode (Instr.core (.prefixCB op2))).length = 2 := congrArg List.length (encode_core _)
    constructor
    · rintro rfl
      exact nomatch two.symm.trans hj
    · rintro rfl
      exact nomatch hj
  | _ => exact Iff.rfl

theorem Instr.imeAfter_eq_ite (i : Instr) (s : State) :
    i.imeAfter s = if i = .di then false else if i = .reti then true else s.ime || s.imeNext := by
  unfold Instr.imeAfter
  split
  · rfl
  · rfl
  · rename_i hdi hreti
    rw [if_neg hdi, if_neg hreti]

theorem Instr.imeNextAfter_eq_decide (i : Instr) : i.imeNextAfter = decide (i = .ei) := by
  unfold Instr.imeNextAfter
  split
  · rfl
  · rename_i hei
    exact (decide_eq_false hei).symm

/-- Settles O17: the latches of the row's effect; DI, RETI and EI, of one byte each, are no rows of the escape table. -/
theorem latchesAfterCompletion : Obligations.LatchesAfterCompletion := by
  intro i s t h
  obtain ⟨n, -, e⟩ := h.rowEffect
  have hime := e.im
  have himeNext := e.imn
  simp only [Instr.imeAfter_eq_ite, core_eq_iff_of_length_one (j := .di) rfl, core_eq_iff_of_length_one (j := .reti) rfl] at hime
  simp only [Instr.imeNextAfter_eq_decide, core_eq_iff_of_length_one (j := .ei) rfl] at himeNext
  exact ⟨hime, himeNext⟩

/-- Settles O60: each row is its shared body from the charged state. -/
theorem latchControl : Obligations.LatchControl := fun _ =>
  ⟨rfl, rfl, rfl, instr_of_charged_ok (body := nopBody) rfl, instr_of_charged_ok (body := diBody) rfl,
    instr_of_charged_ok (body := eiBody) rfl⟩

end Sys2Proof
end

section
/-! SUPPORT. Bodies by their bus accesses (60_exceptions.md R424, R426): a body makes the accesses of its rule in order, stops at
the first one the bus refuses, and completes where the bus refuses none. -/

namespace Sys2Proof.Machine

/-! ### The first refused access -/

/-- The first access of a list that the bus refuses in a state. -/
def firstRefusedOf (s : State) (accesses : List (Word × AccessKind)) : Option (Word × AccessKind) :=
  accesses.find? fun x => (peek8 x.1 s).isNone

variable {s t u : State} {x : Word × AccessKind} {xs ys : List (Word × AccessKind)}

theorem firstRefused_eq (i : Instr) (s : State) : i.firstRefused s = firstRefusedOf s (i.accesses s) := rfl

theorem firstRefusedOf_append :
    firstRefusedOf s (xs ++ ys) = (firstRefusedOf s xs).or (firstRefusedOf s ys) := List.find?_append

@[simp] theorem firstRefusedOf_charged (n : Nat) : firstRefusedOf (charged n s) xs = firstRefusedOf s xs := by
  simp only [firstRefusedOf, peek8_charged]

theorem firstRefusedOf_cons_refused {a : Word} {k : AccessKind} (h : peek8 a s = none) :
    firstRefusedOf s ((a, k) :: xs) = some (a, k) := by
  simp only [firstRefusedOf, List.find?, h, Option.isNone_none]

theorem firstRefusedOf_cons_accepted {a : Word} {k : AccessKind} (h : peek8 a s ≠ none) :
    firstRefusedOf s ((a, k) :: xs) = firstRefusedOf s xs := by
  have ha : (peek8 a s).isNone = false := Option.isNone_eq_false_iff.2 (Option.isSome_iff_ne_none.2 h)
  simp only [firstRefusedOf, List.find?, ha]

theorem peek8_of_firstRefusedOf (h : firstRefusedOf s xs = some x) : peek8 x.1 s = none :=
  Option.isNone_iff_eq_none.1 (List.find?_some (p := fun x : Word × AccessKind => (peek8 x.1 s).isNone) h)

/-! ### A computation by its accesses -/

variable {α β : Type} {P Q : α → Prop} {R : β → Prop} {r : Except Fault α} {f : α → Except Fault β}

/-- A computation of a step that stands in `s` makes these accesses in order: it faults at the first refused one, with the pc of
the step, and otherwise answers a value with `Q`. -/
inductive Performs (s : State) (xs : List (Word × AccessKind)) (Q : α → Prop) (r : Except Fault α) : Prop
  | refused {x : Word × AccessKind} (hx : firstRefusedOf s xs = some x) (hr : r = .error (.unmappedAccess x.1 x.2 s.pc))
  | done (hx : firstRefusedOf s xs = none) (v : α) (hr : r = .ok v) (hQ : Q v)

/-- In sequence, the accesses of the first part come first. -/
theorem Performs.bind (h : Performs s xs Q r) (hf : ∀ v, Q v → Performs s ys R (f v)) :
    Performs s (xs ++ ys) R (r >>= f) := by
  cases h with
  | refused hx hr => exact .refused (by rw [firstRefusedOf_append, hx, Option.some_or]) (by rw [hr, error_bind])
  | done hx v hr hQ =>
    subst hr
    have happend : firstRefusedOf s (xs ++ ys) = firstRefusedOf s ys := by rw [firstRefusedOf_append, hx, Option.none_or]
    cases hf v hQ with
    | refused hy hr => exact .refused (happend.trans hy) hr
    | done hy w hr hR => exact .done (happend.trans hy) w hr hR

theorem Performs.imp (h : Performs s xs P r) (hPQ : ∀ v, P v → Q v) : Performs s xs Q r := by
  cases h with
  | refused hx hr => exact .refused hx hr
  | done hx v hr hP => exact .done hx v hr (hPQ v hP)

/-- A computation that makes no access. -/
theorem Performs.pure {v : α} (hQ : Q v) : Performs s [] Q (.ok v) := .done rfl v rfl hQ

/-- What follows the last access only answers. -/
theorem Performs.andThen {g : α → β} (h : Performs s xs Q r) (hg : ∀ v, Q v → R (g v)) :
    Performs s xs R (r >>= fun v => .ok (g v)) := by
  rw [← List.append_nil xs]
  exact h.bind fun v hv => .pure (hg v hv)

/-! ### The accesses of the bus, of operands and of the stack -/

/-- What no access writes, and every access and its fault depend on beside the memory: the parameters and pc; and RUN and
CYCLES, which no body writes after CHARGE. -/
structure Still (s t : State) : Prop where
  cfg : t.cfg = s.cfg
  pc : t.pc = s.pc
  run : t.run = s.run
  cycles : t.cycles = s.cycles

theorem Still.refl (s : State) : Still s s := ⟨rfl, rfl, rfl, rfl⟩

theorem Still.setSP (h : Still s t) (v : Word) : Still s (t.setSP v) := ⟨h.cfg, h.pc, h.run, h.cycles⟩

theorem Still.poke8 {a : Word} {v : Byte} (h : Still s t) (hu : poke8 a v t = some u) : Still s u := by
  rw [poke8_frame hu]
  exact ⟨h.cfg, h.pc, h.run, h.cycles⟩

/-- Whether an access is refused depends on the parameters only (R76). -/
theorem Still.peek8_eq_none_iff (h : Still s t) (a : Word) : peek8 a t = none ↔ peek8 a s = none := by
  rw [peek8_eq_none, peek8_eq_none, h.cfg]

theorem busRead8_performs (h : Still s t) (a : Word) : Performs s [(a, .read)] (fun _ => True) (busRead8 a t) := by
  cases hr : busRead8 a t with
  | error f =>
    obtain ⟨hn, rfl⟩ := busRead8_error.1 hr
    exact .refused (firstRefusedOf_cons_refused ((h.peek8_eq_none_iff a).1 hn)) (by rw [h.pc])
  | ok v =>
    have hs : peek8 a s ≠ none := fun hn => nomatch hr.symm.trans (busRead8_error.2 ⟨(h.peek8_eq_none_iff a).2 hn, rfl⟩)
    exact .done (firstRefusedOf_cons_accepted hs) v rfl trivial

/-- A store leaves SP too. -/
theorem busWrite8_performs (h : Still s t) (a : Word) (v : Byte) :
    Performs s [(a, .write)] (fun u => Still s u ∧ u.sp = t.sp) (busWrite8 a v t) := by
  cases hr : busWrite8 a v t with
  | error f =>
    obtain ⟨hn, rfl⟩ := busWrite8_error.1 hr
    exact .refused (firstRefusedOf_cons_refused ((h.peek8_eq_none_iff a).1 hn)) (by rw [h.pc])
  | ok u =>
    have hs : peek8 a s ≠ none := fun hn => nomatch hr.symm.trans (busWrite8_error.2 ⟨(h.peek8_eq_none_iff a).2 hn, rfl⟩)
    have hu := busWrite8_ok.1 hr
    exact .done (firstRefusedOf_cons_accepted hs) u rfl ⟨h.poke8 hu, by rw [poke8_frame hu]⟩

end Sys2Proof.Machine

namespace Sys2Proof

open Machine

/-- The access that reading an operand makes (R119). -/
def Place.reads : Place → List (Word × AccessKind)
  | .reg _ => []
  | .mem a => [(a, .read)]

/-- The access that writing an operand makes (R119). -/
def Place.writes : Place → List (Word × AccessKind)
  | .reg _ => []
  | .mem a => [(a, .write)]

end Sys2Proof

namespace Sys2Proof.Machine

variable {s : State}

theorem Still.setReg (r : Reg8) (v : Byte) : Still s (s.setReg r v) :=
  ⟨s.setReg_cfg r v, s.setReg_pc r v, s.setReg_run r v, s.setReg_cycles r v⟩

theorem getR8_performs (p : Place) : Performs s p.reads (fun _ => True) (getR8 p s) := by
  cases p with
  | reg r => exact .pure trivial
  | mem a => exact busRead8_performs (.refl s) a

theorem setR8_performs (p : Place) (v : Byte) : Performs s p.writes (Still s) (setR8 p v s) := by
  cases p with
  | reg r => exact .pure (.setReg r v)
  | mem a => exact (busWrite8_performs (.refl s) a v).imp fun _ hu => hu.1

/-- A word is stored low byte first (R81). -/
theorem memWrite16_performs (a v : Word) : Performs s [(a, .write), (a + 1, .write)] (Still s) (memWrite16 a v s) := by
  rw [memWrite16_eq_bind]
  exact (busWrite8_performs (.refl s) a (lo8 v)).bind fun t ht =>
    (busWrite8_performs ht.1 (a + 1) (hi8 v)).imp fun _ hu => hu.1

/-- A push stores the high byte first, and SP drops before each byte (R240). -/
theorem push16_performs (v : Word) :
    Performs s [(s.sp - 1, .write), (s.sp - 1 - 1, .write)] (Still s) (push16 v s) := by
  rw [push16_eq_bind]
  refine (busWrite8_performs ((Still.refl s).setSP (s.sp - 1)) (s.sp - 1) (hi8 v)).bind fun t ⟨ht, hsp⟩ => ?_
  rw [show t.sp = s.sp - 1 from hsp]
  exact (busWrite8_performs (ht.setSP (s.sp - 1 - 1)) (s.sp - 1 - 1) (lo8 v)).imp fun _ hu => hu.1

/-- A pop is two byte reads in sequence, SP rising after each. -/
theorem pop16_eq_bind (s : State) :
    pop16 s = busRead8 s.sp s >>= fun lo => busRead8 (s.sp + 1) (s.setSP (s.sp + 1)) >>= fun hi =>
      .ok (join hi lo, s.setSP (s.sp + 1 + 1)) := by
  unfold pop16
  cases busRead8 s.sp s with
  | error x => rfl
  | ok lo => cases busRead8 (s.sp + 1) (s.setSP (s.sp + 1)) <;> rfl

/-- A pop reads the low byte first (R241). -/
theorem pop16_performs : Performs s [(s.sp, .read), (s.sp + 1, .read)] (fun p => Still s p.2) (pop16 s) := by
  rw [pop16_eq_bind]
  exact (busRead8_performs (.refl s) s.sp).bind fun lo _ =>
    (busRead8_performs ((Still.refl s).setSP (s.sp + 1)) (s.sp + 1)).andThen fun hi _ => (Still.refl s).setSP (s.sp + 1 + 1)

/-! ### The shared bodies -/

/-- A body has completed: RUN and CYCLES are as CHARGE left them. -/
def Finishes (s t : State) : Prop := t.run = s.run ∧ t.cycles = s.cycles

/-- A body that reads one operand, writes another and then only answers. -/
theorem readThenWrite_performs (src d : Place) {result : Byte → Byte} {after : Byte → State → State}
    (h : ∀ v u, Still s u → Finishes s (after v u)) :
    Performs s (src.reads ++ d.writes) (Finishes s)
      (getR8 src s >>= fun v => setR8 d (result v) s >>= fun u => .ok (after v u)) :=
  (getR8_performs src).bind fun v _ => (setR8_performs d (result v)).andThen fun u hu => h v u hu

theorem loadR8_performs (d src : Place) : Performs s (src.reads ++ d.writes) (Finishes s) (loadR8 d src s) :=
  readThenWrite_performs src d fun _ _ hu => ⟨hu.run, hu.cycles⟩

theorem loadImm_performs (d : Place) (n : Byte) : Performs s d.writes (Finishes s) (loadImm d n s) :=
  (setR8_performs d n).andThen fun _ hu => ⟨hu.run, hu.cycles⟩

theorem loadA_performs (ea len : Word) : Performs s [(ea, .read)] (Finishes s) (loadA ea len s) :=
  (busRead8_performs (.refl s) ea).andThen fun _ _ => ⟨rfl, rfl⟩

theorem storeA_performs (ea len : Word) : Performs s [(ea, .write)] (Finishes s) (storeA ea len s) :=
  (busWrite8_performs (.refl s) ea s.a).andThen fun _ hu => ⟨hu.1.run, hu.1.cycles⟩

theorem loadAStep_performs (move : Word → Word) (ea : Word) :
    Performs s [(ea, .read)] (Finishes s) (loadAStep move ea s) :=
  (busRead8_performs (.refl s) ea).andThen fun _ _ => ⟨rfl, rfl⟩

theorem storeAStep_performs (move : Word → Word) (ea : Word) :
    Performs s [(ea, .write)] (Finishes s) (storeAStep move ea s) :=
  (busWrite8_performs (.refl s) ea s.a).andThen fun _ hu => ⟨hu.1.run, hu.1.cycles⟩

theorem storeSP_performs (ea : Word) : Performs s [(ea, .write), (ea + 1, .write)] (Finishes s) (storeSP ea s) :=
  (memWrite16_performs ea s.sp).andThen fun _ hu => ⟨hu.run, hu.cycles⟩

theorem pushPair_performs (q : StackPair) :
    Performs s [(s.sp - 1, .write), (s.sp - 1 - 1, .write)] (Finishes s) (pushPair q s) :=
  (push16_performs (s.getStackPair q)).andThen fun _ hu => ⟨hu.run, hu.cycles⟩

theorem callTo_performs (nn : Word) :
    Performs s [(s.sp - 1, .write), (s.sp - 1 - 1, .write)] (Finishes s) (callTo nn s) :=
  (push16_performs (s.pc + 3)).andThen fun _ hu => ⟨hu.run, hu.cycles⟩

theorem restart_performs (v : Idx3) :
    Performs s [(s.sp - 1, .write), (s.sp - 1 - 1, .write)] (Finishes s) (restart v s) :=
  (push16_performs (s.pc + 1)).andThen fun _ hu => ⟨hu.run, hu.cycles⟩

theorem popPair_performs (q : StackPair) : Performs s [(s.sp, .read), (s.sp + 1, .read)] (Finishes s) (popPair q s) :=
  pop16_performs.andThen fun p hp =>
    ⟨(p.2.setStackPair_run q p.1).trans hp.run, (p.2.setStackPair_cycles q p.1).trans hp.cycles⟩

theorem returnBody_performs : Performs s [(s.sp, .read), (s.sp + 1, .read)] (Finishes s) (returnBody s) :=
  pop16_performs.andThen fun _ hp => ⟨hp.run, hp.cycles⟩

theorem retiBody_performs : Performs s [(s.sp, .read), (s.sp + 1, .read)] (Finishes s) (retiBody s) :=
  pop16_performs.andThen fun _ hp => ⟨hp.run, hp.cycles⟩

theorem aluApply_finishes (op : AluOp) (v : Byte) : Finishes s (aluApply op v s) := by cases op <;> exact ⟨rfl, rfl⟩

theorem aluR8_performs (op : AluOp) (p : Place) : Performs s p.reads (Finishes s) (aluR8 op p s) :=
  (getR8_performs p).andThen fun v _ => aluApply_finishes op v

theorem incR8_performs (p : Place) : Performs s (p.reads ++ p.writes) (Finishes s) (incR8 p s) :=
  readThenWrite_performs p p fun _ _ hu => ⟨hu.run, hu.cycles⟩

theorem decR8_performs (p : Place) : Performs s (p.reads ++ p.writes) (Finishes s) (decR8 p s) :=
  readThenWrite_performs p p fun _ _ hu => ⟨hu.run, hu.cycles⟩

theorem rotR8_performs (op : RotOp) (p : Place) : Performs s (p.reads ++ p.writes) (Finishes s) (rotR8 op p s) :=
  readThenWrite_performs p p fun _ _ hu => ⟨hu.run, hu.cycles⟩

theorem resR8_performs (b : Idx3) (p : Place) : Performs s (p.reads ++ p.writes) (Finishes s) (resR8 b p s) :=
  readThenWrite_performs p p fun _ _ hu => ⟨hu.run, hu.cycles⟩

theorem setBitR8_performs (b : Idx3) (p : Place) : Performs s (p.reads ++ p.writes) (Finishes s) (setBitR8 b p s) :=
  readThenWrite_performs p p fun _ _ hu => ⟨hu.run, hu.cycles⟩

theorem bitR8_performs (b : Idx3) (p : Place) : Performs s p.reads (Finishes s) (bitR8 b p s) :=
  (getR8_performs p).andThen fun _ _ => ⟨rfl, rfl⟩

theorem aluImm_performs (op : AluOp) (n : Byte) : Performs s [] (Finishes s) (aluImm op n s) :=
  .pure (aluApply_finishes op n)

theorem rotA_performs (op : RotOp) : Performs s [] (Finishes s) (rotA op s) := .pure ⟨rfl, rfl⟩

theorem addHL_performs (p : Pair) : Performs s [] (Finishes s) (addHL p s) := .pure ⟨rfl, rfl⟩

theorem setPair_finishes (p : Pair) (v : Word) : Finishes s (s.setPair p v) := ⟨s.setPair_run p v, s.setPair_cycles p v⟩

theorem loadPairImm_performs (p : Pair) (nn : Word) : Performs s [] (Finishes s) (loadPairImm p nn s) :=
  .pure (setPair_finishes p nn)

theorem incPair_performs (p : Pair) : Performs s [] (Finishes s) (incPair p s) := .pure (setPair_finishes p _)

theorem decPair_performs (p : Pair) : Performs s [] (Finishes s) (decPair p s) := .pure (setPair_finishes p _)

theorem jumpTo_performs (nn : Word) : Performs s [] (Finishes s) (jumpTo nn s) := .pure ⟨rfl, rfl⟩

theorem jumpRel_performs (e : Byte) : Performs s [] (Finishes s) (jumpRel e s) := .pure ⟨rfl, rfl⟩

theorem skip_performs (len : Word) : Performs s [] (Finishes s) (skip len s) := .pure ⟨rfl, rfl⟩

end Sys2Proof.Machine
end

section
/-! SUPPORT. What the record of an instruction does in the state it is executed in (30_encoding.md R133, 60_exceptions.md R440),
and so what an instruction does in its own: the row's cost is charged and the row's accesses are made, or the row faults at
decode. -/

namespace Sys2Proof

open Machine Host

/-- The fault that DECODE raises for an opcode at pc, by its class (R127, R128, R422). -/
def decodeFault (op : Byte) (pc : Word) : Option Fault :=
  match opClass op with
  | .unused => some (.unusedOpcode op pc)
  | .unimplemented => some (.unimplemented op pc)
  | .instruction | .escape => none

/-- The record of `i` made in `s` runs in `t` with the cost `n` and the result `r`: it makes the row's accesses, at the operand
addresses and under the condition of `s` and on the stack of `t`, an indirect operand first. -/
structure RecordRun (i : Instr) (s t : State) (n : Nat) (r : Except Fault State) : Prop where
  exec : execRecord (record i s) t = settle t r
  cost : i.cost s = some n
  four_le : 4 ≤ n
  operand : i.operandAddr s = none ∨ i.operandAddr s = (i.accesses (s.setSP t.sp)).head?.map Prod.fst
  performs : Performs t (i.accesses (s.setSP t.sp)) (fun u => u.run = t.run ∧ u.cycles = t.cycles + n) r

/-- The record of `i` made in `s` runs in `t`. -/
def RecordRuns (i : Instr) (s t : State) : Prop := ∃ n r, RecordRun i s t n r

/-- The record of `i` made in `s` only raises in `t` the fault of its opcode. -/
def RecordStops (i : Instr) (s t : State) : Prop :=
  ∃ op f, encode i = [op] ∧ decodeFault op t.pc = some f ∧ i.cost s = none ∧
    execRecord (record i s) t = settle t (.error f)

variable {i : Instr} {s t : State}

/-- The record of `i` made in `s` is, in `t`, a cost and a body, and these are its row's cost and its row's accesses. -/
structure RecordRow (i : Instr) (s t : State) (n : Nat) (body : State → Except Fault State)
    (xs : List (Word × AccessKind)) : Prop where
  exec : execRecord (record i s) t = instr n body t
  cost : i.cost s = some n
  accesses : i.accesses (s.setSP t.sp) = xs
  operand : i.operandAddr s = none ∨ i.operandAddr s = xs.head?.map Prod.fst

/-- A record runs if its body makes the accesses of its row. -/
theorem RecordRuns.intro {n : Nat} {body : State → Except Fault State} {xs : List (Word × AccessKind)}
    (h : Performs (charged n t) xs (Finishes (charged n t)) (body (charged n t))) (row : RecordRow i s t n body xs)
    (hn : 4 ≤ n := by decide) : RecordRuns i s t := by
  obtain ⟨hexec, hcost, rfl, hoperand⟩ := row
  refine ⟨n, body (charged n t), by rw [hexec, instr, charge_eq_charged (by omega)], hcost, hn, hoperand, ?_⟩
  cases h with
  | refused hx hr => exact .refused (by rwa [firstRefusedOf_charged] at hx) hr
  | done hx u hr hu => exact .done (by rwa [firstRefusedOf_charged] at hx) u hr hu

/-- The same under a condition, which picks the cost, the body and the accesses. -/
theorem RecordRuns.intro_if {b : Bool} {m n : Nat} {taken notTaken : State → Except Fault State}
    {xs : List (Word × AccessKind)} (hT : Performs (charged m t) xs (Finishes (charged m t)) (taken (charged m t)))
    (hF : Performs (charged n t) [] (Finishes (charged n t)) (notTaken (charged n t)))
    (hexec : execRecord (record i s) t = instrIf b m n taken notTaken t)
    (hcost : i.cost s = if b then some m else some n)
    (hxs : i.accesses (s.setSP t.sp) = if b then xs else []) (hoperand : i.operandAddr s = none)
    (hm : 4 ≤ m := by decide) (hn : 4 ≤ n := by decide) : RecordRuns i s t := by
  cases b with
  | true => exact .intro hT ⟨hexec, hcost, hxs, .inl hoperand⟩ hm
  | false => exact .intro hF ⟨hexec, hcost, hxs, .inl hoperand⟩ hn

/-! ### The families -/

theorem recordRuns_ldInstr_reg (dst : Reg8) (r : R8) : RecordRuns (ldInstr (.reg dst) r) s t := by
  cases r with
  | reg r =>
    exact .intro (n := 4) (loadR8_performs (.reg dst) (.reg r)) (by cases dst <;> cases r <;> exact ⟨rfl, rfl, rfl, .inl rfl⟩)
  | atHL => exact .intro (n := 8) (loadR8_performs (.reg dst) (.mem s.hl)) (by cases dst <;> exact ⟨rfl, rfl, rfl, .inr rfl⟩)

theorem recordRuns_ldInstr_atHL_reg (r : Reg8) : RecordRuns (ldInstr .atHL (.reg r)) s t :=
  .intro (n := 8) (loadR8_performs (.mem s.hl) (.reg r)) (by cases r <;> exact ⟨rfl, rfl, rfl, .inr rfl⟩)

theorem recordRuns_ldImmInstr (dst : R8) (n : Byte) : RecordRuns (ldImmInstr dst n) s t := by
  cases dst with
  | reg dst => exact .intro (n := 8) (loadImm_performs (.reg dst) n) (by cases dst <;> exact ⟨rfl, rfl, rfl, .inl rfl⟩)
  | atHL => exact .intro (n := 12) (loadImm_performs (.mem s.hl) n) ⟨rfl, rfl, rfl, .inr rfl⟩

theorem recordRuns_incInstr (r : R8) : RecordRuns (incInstr r) s t := by
  cases r with
  | reg r => exact .intro (n := 4) (incR8_performs (.reg r)) (by cases r <;> exact ⟨rfl, rfl, rfl, .inl rfl⟩)
  | atHL => exact .intro (n := 12) (incR8_performs (.mem s.hl)) ⟨rfl, rfl, rfl, .inr rfl⟩

theorem recordRuns_decInstr (r : R8) : RecordRuns (decInstr r) s t := by
  cases r with
  | reg r => exact .intro (n := 4) (decR8_performs (.reg r)) (by cases r <;> exact ⟨rfl, rfl, rfl, .inl rfl⟩)
  | atHL => exact .intro (n := 12) (decR8_performs (.mem s.hl)) ⟨rfl, rfl, rfl, .inr rfl⟩

theorem recordRuns_aluInstr (op : AluOp) (r : R8) : RecordRuns (aluInstr op r) s t := by
  cases r with
  | reg r => exact .intro (n := 4) (aluR8_performs op (.reg r)) (by cases op <;> cases r <;> exact ⟨rfl, rfl, rfl, .inl rfl⟩)
  | atHL => exact .intro (n := 8) (aluR8_performs op (.mem s.hl)) (by cases op <;> exact ⟨rfl, rfl, rfl, .inr rfl⟩)

theorem recordRuns_rotInstr (op : RotOp) (r : R8) : RecordRuns (rotInstr op r) s t := by
  cases r with
  | reg r => exact .intro (n := 8) (rotR8_performs op (.reg r)) (by cases op <;> cases r <;> exact ⟨rfl, rfl, rfl, .inl rfl⟩)
  | atHL => exact .intro (n := 16) (rotR8_performs op (.mem s.hl)) (by cases op <;> exact ⟨rfl, rfl, rfl, .inr rfl⟩)

theorem recordRuns_bitInstr (b : Idx3) (r : R8) : RecordRuns (bitInstr b r) s t := by
  cases r with
  | reg r => exact .intro (n := 8) (bitR8_performs b (.reg r)) (by cases b <;> cases r <;> exact ⟨rfl, rfl, rfl, .inl rfl⟩)
  | atHL => exact .intro (n := 12) (bitR8_performs b (.mem s.hl)) (by cases b <;> exact ⟨rfl, rfl, rfl, .inr rfl⟩)

theorem recordRuns_resInstr (b : Idx3) (r : R8) : RecordRuns (resInstr b r) s t := by
  cases r with
  | reg r => exact .intro (n := 8) (resR8_performs b (.reg r)) (by cases b <;> cases r <;> exact ⟨rfl, rfl, rfl, .inl rfl⟩)
  | atHL => exact .intro (n := 16) (resR8_performs b (.mem s.hl)) (by cases b <;> exact ⟨rfl, rfl, rfl, .inr rfl⟩)

theorem recordRuns_setInstr (b : Idx3) (r : R8) : RecordRuns (setInstr b r) s t := by
  cases r with
  | reg r => exact .intro (n := 8) (setBitR8_performs b (.reg r)) (by cases b <;> cases r <;> exact ⟨rfl, rfl, rfl, .inl rfl⟩)
  | atHL => exact .intro (n := 16) (setBitR8_performs b (.mem s.hl)) (by cases b <;> exact ⟨rfl, rfl, rfl, .inr rfl⟩)

/-- A conditional return reads the stack only if it is taken. -/
theorem accesses_retCcInstr (cc : Cond) (s : State) :
    (retCcInstr cc).accesses s = if s.cond cc then [(s.sp, .read), (s.sp + 1, .read)] else [] := by
  have hload : (retCcInstr cc).loadAddrs s = if s.cond cc then [s.sp, s.sp + 1] else [] := by cases cc <;> rfl
  have hstore : (retCcInstr cc).storeAddrs s = [] := by cases cc <;> rfl
  rw [Instr.accesses, hload, hstore, List.map_nil, List.append_nil]
  exact apply_ite _ _ _ _

/-! ### Every row -/

/-- Every record runs, or only raises its fault. -/
theorem recordRuns_or_recordStops (hw : i.wellFormed = true) (s t : State) : RecordRuns i s t ∨ RecordStops i s t := by
  cases i using Instr.byForm with
  | ld dst r =>
    cases dst with
    | reg dst => exact .inl (recordRuns_ldInstr_reg dst r)
    | atHL =>
      cases r with
      | reg r => exact .inl (recordRuns_ldInstr_atHL_reg r)
      | atHL => exact .inr ⟨_, _, rfl, rfl, rfl, rfl⟩
  | ldImm dst n => exact .inl (recordRuns_ldImmInstr dst n)
  | inc r => exact .inl (recordRuns_incInstr r)
  | dec r => exact .inl (recordRuns_decInstr r)
  | alu op r => exact .inl (recordRuns_aluInstr op r)
  | rot op r => exact .inl (recordRuns_rotInstr op r)
  | bit b r => exact .inl (recordRuns_bitInstr b r)
  | res b r => exact .inl (recordRuns_resInstr b r)
  | set b r => exact .inl (recordRuns_setInstr b r)
  | aluImm op n => exact .inl (.intro (n := 8) (aluImm_performs op n) (by cases op <;> exact ⟨rfl, rfl, rfl, .inl rfl⟩))
  | ldPair p nn => exact .inl (.intro (n := 12) (loadPairImm_performs p nn) (by cases p <;> exact ⟨rfl, rfl, rfl, .inl rfl⟩))
  | addHl p => exact .inl (.intro (n := 8) (addHL_performs p) (by cases p <;> exact ⟨rfl, rfl, rfl, .inl rfl⟩))
  | incPair p => exact .inl (.intro (n := 8) (incPair_performs p) (by cases p <;> exact ⟨rfl, rfl, rfl, .inl rfl⟩))
  | decPair p => exact .inl (.intro (n := 8) (decPair_performs p) (by cases p <;> exact ⟨rfl, rfl, rfl, .inl rfl⟩))
  | pop q => exact .inl (.intro (n := 12) (popPair_performs q) (by cases q <;> exact ⟨rfl, rfl, rfl, .inl rfl⟩))
  | push q => exact .inl (.intro (n := 16) (pushPair_performs q) (by cases q <;> exact ⟨rfl, rfl, rfl, .inl rfl⟩))
  | rst v => exact .inl (.intro (n := 16) (restart_performs v) (by cases v <;> exact ⟨rfl, rfl, rfl, .inl rfl⟩))
  | jrCc cc e => left; cases cc <;> exact .intro_if (jumpRel_performs e) (skip_performs 2) rfl rfl (ite_self _).symm rfl
  | retCc cc => left; cases cc <;> exact .intro_if returnBody_performs (skip_performs 1) rfl rfl (accesses_retCcInstr _ _) rfl
  | jpCc cc nn => left; cases cc <;> exact .intro_if (jumpTo_performs nn) (skip_performs 3) rfl rfl (ite_self _).symm rfl
  | callCc cc nn => left; cases cc <;> exact .intro_if (callTo_performs nn) (skip_performs 3) rfl rfl (apply_ite _ _ _ _) rfl
  | ldAAtBC | ldAAtDE | ldhAAtImm n | ldAAtC | ldAAtImm16 nn =>
    exact .inl (.intro (loadA_performs _ _) ⟨rfl, rfl, rfl, .inr rfl⟩)
  | ldAtBCA | ldAtDEA | ldhAtImmA n | ldAtCA | ldAtImm16A nn =>
    exact .inl (.intro (storeA_performs _ _) ⟨rfl, rfl, rfl, .inr rfl⟩)
  | ldAAtHLInc | ldAAtHLDec => exact .inl (.intro (loadAStep_performs _ _) ⟨rfl, rfl, rfl, .inr rfl⟩)
  | ldAtHLIncA | ldAtHLDecA => exact .inl (.intro (storeAStep_performs _ _) ⟨rfl, rfl, rfl, .inr rfl⟩)
  | ldAtImm16SP nn => exact .inl (.intro (storeSP_performs nn) ⟨rfl, rfl, rfl, .inr rfl⟩)
  | callImm16 nn => exact .inl (.intro (callTo_performs nn) ⟨rfl, rfl, rfl, .inl rfl⟩)
  | ret => exact .inl (.intro returnBody_performs ⟨rfl, rfl, rfl, .inl rfl⟩)
  | reti => exact .inl (.intro retiBody_performs ⟨rfl, rfl, rfl, .inl rfl⟩)
  | rlca | rrca | rla | rra => exact .inl (.intro (rotA_performs _) ⟨rfl, rfl, rfl, .inl rfl⟩)
  | jrDisp e => exact .inl (.intro (jumpRel_performs e) ⟨rfl, rfl, rfl, .inl rfl⟩)
  | jpImm16 nn => exact .inl (.intro (jumpTo_performs nn) ⟨rfl, rfl, rfl, .inl rfl⟩)
  | jpAtHL => exact .inl (.intro (body := jumpHL) (.pure ⟨rfl, rfl⟩) ⟨rfl, rfl, rfl, .inl rfl⟩)
  | nop => exact .inl (.intro (body := nopBody) (.pure ⟨rfl, rfl⟩) ⟨rfl, rfl, rfl, .inl rfl⟩)
  | di => exact .inl (.intro (body := diBody) (.pure ⟨rfl, rfl⟩) ⟨rfl, rfl, rfl, .inl rfl⟩)
  | ei => exact .inl (.intro (body := eiBody) (.pure ⟨rfl, rfl⟩) ⟨rfl, rfl, rfl, .inl rfl⟩)
  | daa => exact .inl (.intro (body := daaBody) (.pure ⟨rfl, rfl⟩) ⟨rfl, rfl, rfl, .inl rfl⟩)
  | cpl => exact .inl (.intro (body := cplBody) (.pure ⟨rfl, rfl⟩) ⟨rfl, rfl, rfl, .inl rfl⟩)
  | scf => exact .inl (.intro (body := scfBody) (.pure ⟨rfl, rfl⟩) ⟨rfl, rfl, rfl, .inl rfl⟩)
  | ccf => exact .inl (.intro (body := ccfBody) (.pure ⟨rfl, rfl⟩) ⟨rfl, rfl, rfl, .inl rfl⟩)
  | ldSPHL => exact .inl (.intro (body := loadSPHL) (.pure ⟨rfl, rfl⟩) ⟨rfl, rfl, rfl, .inl rfl⟩)
  | ldHLSPDisp e => exact .inl (.intro (body := loadHLSPDisp e) (.pure ⟨rfl, rfl⟩) ⟨rfl, rfl, rfl, .inl rfl⟩)
  | stop | addSPDisp | unusedD3 | unusedDB | unusedDD | unusedE3 | unusedE4 | unusedEB | unusedEC | unusedED | unusedF4
  | unusedFC | unusedFD => exact .inr ⟨_, _, rfl, rfl, rfl, rfl⟩
  | prefixCB => exact nomatch hw

end Sys2Proof
end

section
/-! SUPPORT. The faults of a step (60_exceptions.md R420 to R426): those of its fetches, in their order, that of its opcode, and
those of the bus accesses of its body. -/

namespace Sys2Proof.Machine

/-! ### The outcome of a computation by its accesses -/

variable {α : Type} {s : State} {xs : List (Word × AccessKind)} {Q : α → Prop} {r : Except Fault α}

theorem Performs.eq_error {x : Word × AccessKind} (h : Performs s xs Q r) (hx : firstRefusedOf s xs = some x) :
    r = .error (.unmappedAccess x.1 x.2 s.pc) := by
  cases h with
  | refused hy hr => cases hx.symm.trans hy; exact hr
  | done hy => exact nomatch hx.symm.trans hy

theorem Performs.eq_ok (h : Performs s xs Q r) (hx : firstRefusedOf s xs = none) : ∃ v, r = .ok v ∧ Q v := by
  cases h with
  | refused hy => exact nomatch hx.symm.trans hy
  | done _ v hr hQ => exact ⟨v, hr, hQ⟩

end Sys2Proof.Machine

namespace Sys2Proof

open Machine Host

/-! ### The fetches in order (R426 items 1 to 4) -/

section

variable {ε : Type} {rd : Nat → Except ε Byte} {x : ε} {op v : Byte} {i : Instr}

theorem decodeWith_of_ok (h : rd 0 = .ok op) : decodeWith rd = decodeRest op rd := by
  simp only [decodeWith, h]

theorem decodeWith_of_error (h : rd 0 = .error x) : decodeWith rd = .error x := by
  simp only [decodeWith, h]

/-- A row with a second byte faults if that byte does. -/
theorem decodeRest_of_error_one (hb : 2 ≤ (primaryEntry op).bytes) (h : rd 1 = .error x) : decodeRest op rd = .error x := by
  unfold decodeRest
  cases he : primaryEntry op with
  | done i => simp [he, Entry.bytes] at hb
  | imm8 k => simp only [h]
  | imm16 k => simp only [h]
  | escape => simp only [h]

/-- A row with a third byte faults if that byte does and the second does not. -/
theorem decodeRest_of_error_two (hb : 3 ≤ (primaryEntry op).bytes) (h1 : rd 1 = .ok v) (h2 : rd 2 = .error x) :
    decodeRest op rd = .error x := by
  unfold decodeRest
  cases he : primaryEntry op with
  | imm16 k => simp only [h1, h2]
  | done i => simp [he, Entry.bytes] at hb
  | imm8 k => simp [he, Entry.bytes] at hb
  | escape => simp [he, Entry.bytes] at hb

/-- Decode has no fault of its own: what it raises, a fetch raised. -/
theorem exists_of_decodeRest_error (h : decodeRest op rd = .error x) : ∃ k, rd k = .error x := by
  unfold decodeRest at h
  repeat' split at h
  all_goals cases h
  all_goals exact ⟨_, ‹_›⟩

/-- The bytes decode reads spell what it answers (R110, R112). -/
theorem spells_of_decodeRest (h : decodeRest op rd = .ok i) : ∃ bs, Spells (op :: bs) i := by
  unfold decodeRest at h
  cases he : primaryEntry op with
  | done j =>
    simp only [he] at h
    cases h
    exact ⟨[], .done he⟩
  | imm8 k =>
    simp only [he] at h
    split at h <;> cases h
    exact ⟨_, .imm8 he _⟩
  | imm16 k =>
    simp only [he] at h
    repeat' split at h
    all_goals cases h
    exact ⟨_, .imm16 he _⟩
  | escape =>
    obtain rfl := primaryEntry_escape.1 he
    simp only [he] at h
    split at h <;> cases h
    exact ⟨_, .escape _⟩

end

variable {s t : State} {i : Instr} {op v : Byte} {f : Fault}

theorem fetchByte_of_some {k : Nat} (h : peek8 (s.pc + BitVec.ofNat 16 k) s = some v) : fetchByte s k = .ok v :=
  busRead8_ok.2 h

theorem fetchByte_of_none {k : Nat} (h : peek8 (s.pc + BitVec.ofNat 16 k) s = none) :
    fetchByte s k = .error (.unmappedAccess (s.pc + BitVec.ofNat 16 k) .read s.pc) :=
  busRead8_error.2 ⟨h, rfl⟩

theorem fetchByte_zero (s : State) : fetchByte s 0 = busRead8 s.pc s :=
  congrArg (busRead8 · s) (BitVec.add_zero s.pc)

theorem fetchDecode_of_opcode (h : peek8 s.pc s = some op) : fetchDecode s = decodeRest op (fetchByte s) :=
  decodeWith_of_ok ((fetchByte_zero s).trans (busRead8_ok.2 h))

theorem fetchDecode_of_no_opcode (h : peek8 s.pc s = none) :
    fetchDecode s = .error (.unmappedAccess s.pc .read s.pc) :=
  decodeWith_of_error ((fetchByte_zero s).trans (busRead8_error.2 ⟨h, rfl⟩))

/-- A fault of the fetch is the whole step: RUN is set and nothing else changes (R421). -/
theorem step_of_live_fetch_error (hlive : Live s) (hd : fetchDecode s = .error f) :
    step s = .next { s with run := .faulted f } :=
  (step_of_fetch_error hlive hd).trans (settle_error_of_live hlive f)

/-- Settles O8: each byte of the row is fetched only where those before it can be read. -/
theorem fetchFaultsInOrder : Obligations.FetchFaultsInOrder := by
  intro s hlive
  refine ⟨fun h => step_of_live_fetch_error hlive (fetchDecode_of_no_opcode h),
    fun op hop => ⟨fun hb h1 => ?_, fun hb ⟨v, h1⟩ h2 => ?_⟩⟩
  · exact step_of_live_fetch_error hlive
      ((fetchDecode_of_opcode hop).trans (decodeRest_of_error_one hb (fetchByte_of_none (k := 1) h1)))
  · exact step_of_live_fetch_error hlive
      ((fetchDecode_of_opcode hop).trans
        (decodeRest_of_error_two hb (fetchByte_of_some (k := 1) h1) (fetchByte_of_none (k := 2) h2)))

/-- A fetch can raise `UnmappedAccess` only, with the pc of the step. -/
theorem fetchDecode_gap (h : fetchDecode s = .error f) : GapFault s f := by
  cases hop : peek8 s.pc s with
  | none =>
    rw [fetchDecode_of_no_opcode hop] at h
    cases h
    exact ⟨s.pc, .read, rfl, (peek8_eq_none _ _).1 hop⟩
  | some op =>
    rw [fetchDecode_of_opcode hop] at h
    obtain ⟨k, hk⟩ := exists_of_decodeRest_error h
    exact busRead8_gap hk

/-- What a step decodes is spelled by bytes that begin with the opcode at pc. -/
theorem spells_of_fetchDecode (h : fetchDecode s = .ok i) : ∃ op bs, peek8 s.pc s = some op ∧ Spells (op :: bs) i := by
  cases hop : peek8 s.pc s with
  | none => exact nomatch (fetchDecode_of_no_opcode hop).symm.trans h
  | some op =>
    rw [fetchDecode_of_opcode hop] at h
    obtain ⟨bs, hs⟩ := spells_of_decodeRest h
    exact ⟨op, bs, rfl, hs⟩

/-! ### The accesses of the body (R426 item 5) -/

/-- An instruction charges its row's cost and makes its row's accesses, or only raises the fault of its opcode. -/
theorem exec_runs_or_stops (i : Instr) (s : State) :
    (∃ n r, i.core.cost s = some n ∧ 4 ≤ n ∧ exec i s = settle s r ∧
      Performs s (i.core.accesses s) (fun t => t.run = s.run) r) ∨
    ∃ op f, encode i = [op] ∧ decodeFault op s.pc = some f ∧ i.core.cost s = none ∧ exec i s = settle s (.error f) := by
  rcases recordRuns_or_recordStops (core_wellFormed i) s s with ⟨n, r, h⟩ | ⟨op, f, hop, hf, hcost, hexec⟩
  · have hexec := h.exec
    rw [execRecord_record, exec_core] at hexec
    exact .inl ⟨n, r, h.cost, h.four_le, hexec, h.performs.imp fun _ ht => ht.1⟩
  · rw [execRecord_record, exec_core] at hexec
    rw [encode_core] at hop
    exact .inr ⟨op, f, hop, hf, hcost, hexec⟩

/-- Settles O14: a row that charges makes its accesses, and the first refused one is its fault. -/
theorem bodyFaultsExactly : Obligations.BodyFaultsExactly := by
  intro i s n hlive hcost
  rcases exec_runs_or_stops i s with ⟨_, r, -, -, hexec, hr⟩ | ⟨_, _, _, _, hnone, _⟩
  · rw [firstRefused_eq, hexec]
    cases hx : firstRefusedOf s (i.core.accesses s) with
    | some x => exact hr.eq_error hx ▸ settle_error_of_live hlive _
    | none =>
      obtain ⟨t, rfl, ht⟩ := hr.eq_ok hx
      exact ⟨t, rfl, ht.trans hlive⟩
  · exact nomatch hnone.symm.trans hcost

/-! ### The faults of a step -/

/-- The faults a step of `s` can raise: a refused access with the pc of the step, or the fault of the opcode at pc. -/
def StepFault (s : State) (f : Fault) : Prop :=
  GapFault s f ∨ ∃ op, peek8 s.pc s = some op ∧ decodeFault op s.pc = some f

/-- A step of a live state completes, or sets RUN to one of these faults and changes nothing else. -/
theorem step_live_cases (hlive : Live s) :
    (∃ t, step s = .next t ∧ Live t) ∨ ∃ f, StepFault s f ∧ step s = .next { s with run := .faulted f } := by
  cases hd : fetchDecode s with
  | error f => exact .inr ⟨f, .inl (fetchDecode_gap hd), step_of_live_fetch_error hlive hd⟩
  | ok i =>
    rw [step_of_decoded hlive hd]
    rcases exec_runs_or_stops i s with ⟨_, r, -, -, hexec, hr⟩ | ⟨op, f, hop, hf, -, hexec⟩
    · cases hr with
      | @refused x hx hr =>
        refine .inr ⟨_, .inl ⟨x.1, x.2, rfl, (peek8_eq_none _ _).1 (peek8_of_firstRefusedOf hx)⟩, ?_⟩
        rw [hexec, hr, settle_error_of_live hlive]
      | done _ t hr ht => exact .inl ⟨t, by rw [hexec, hr, settle_ok], ht.trans hlive⟩
    · obtain ⟨op', bs, hpeek, hs⟩ := spells_of_fetchDecode hd
      obtain rfl : op = op' := List.head_eq_of_cons_eq (hop.symm.trans hs.encode_eq)
      exact .inr ⟨f, .inr ⟨op, hpeek, hf⟩, hexec.trans (settle_error_of_live hlive f)⟩

/-- The fault of an opcode has code 1 or 2 (R425). -/
theorem code_of_decodeFault {pc : Word} (h : decodeFault op pc = some f) : f.code = 1 ∨ f.code = 2 := by
  unfold decodeFault at h
  split at h <;> cases h
  · exact .inl rfl
  · exact .inr rfl

/-- DECODE raises no fault for the instructions and the escape byte (R126). -/
theorem decodeFault_eq_none {pc : Word} : decodeFault op pc = none ↔ opClass op = .instruction ∨ opClass op = .escape := by
  unfold decodeFault
  split <;> simp_all

theorem code_of_gapFault (h : GapFault s f) : f.code = 3 := by
  obtain ⟨a, k, rfl, -⟩ := h
  rfl

/-- Settles O11: the faults of a step have codes 1 to 3, and no step of a Faulted state runs. -/
theorem faultsAreAtomic : Obligations.FaultsAreAtomic := by
  refine ⟨fun s hlive => ?_, fun s f h => step_of_faulted h⟩
  rcases step_live_cases hlive with ⟨t, hstep, ht⟩ | ⟨f, hf, hstep⟩
  · exact ⟨t, hstep, .inl ht⟩
  · refine ⟨_, hstep, .inr ⟨f, rfl, ?_⟩⟩
    rcases hf with hgap | ⟨op, -, hop⟩
    · have := code_of_gapFault hgap
      omega
    · have := code_of_decodeFault hop
      omega

/-- An address that is not mapped lies in the gap, under the policy Fault (R76). -/
theorem not_mapped {cfg : Config} {a : Word} :
    ¬ Mapped cfg a ↔ cfg.unmappedPolicy = .fault ∧ 0xFEA0 ≤ a.toNat ∧ a.toNat ≤ 0xFEFF := by
  cases h : cfg.unmappedPolicy <;> simp [Mapped, h]

/-- Settles O12: an `UnmappedAccess` is no opcode's fault, so an access of the step was refused. -/
theorem unmappedFaultIsReal : Obligations.UnmappedFaultIsReal := by
  intro s t a p k hlive hstep hrun
  rcases step_live_cases hlive with ⟨u, hu, hlive'⟩ | ⟨f, hf, hu⟩
  · cases hu.symm.trans hstep
    exact nomatch hrun.symm.trans hlive'
  · cases hu.symm.trans hstep
    obtain rfl : f = .unmappedAccess a k p := Run.faulted.inj hrun
    rcases hf with ⟨_, _, heq, hslot⟩ | ⟨op, -, hop⟩
    · cases heq
      obtain ⟨hpolicy, hlo, hhi⟩ := not_mapped.1 ((slotOf_eq_unmapped _ _).1 hslot)
      exact ⟨hpolicy, hlo, hhi, rfl⟩
    · exact absurd (code_of_decodeFault hop) (by simp [Fault.code])

/-- Settles O13: under the policy Storage every address is mapped, and these opcodes have no fault. -/
theorem nothingElseFaults : Obligations.NothingElseFaults := by
  intro s t op hlive hpolicy hop hclass hstep
  rcases step_live_cases hlive with ⟨u, hu, hlive'⟩ | ⟨f, ⟨a, k, -, hslot⟩ | ⟨op', hop', hf⟩, -⟩
  · cases hu.symm.trans hstep
    exact hlive'
  · exact absurd (.inl hpolicy) ((slotOf_eq_unmapped _ _).1 hslot)
  · cases hop.symm.trans hop'
    exact nomatch (decodeFault_eq_none.2 hclass).symm.trans hf

end Sys2Proof
end

section
/-! SUPPORT. CHARGE, the cost and the latches of a step, and its register frame (10_state.md R42 to R44, R49;
70_reset_and_hazards.md R472, R481, R482). -/

namespace Sys2Proof

open Machine Host

variable {i : Instr} {s t : State}

/-! ### CHARGE (R44) -/

/-- Charges add up: the ticks of the first come first. -/
theorem Machine.State.charge_charge (m n : Nat) (s : State) : (s.charge m).charge n = s.charge (m + n) := by
  induction m generalizing s with
  | zero => rw [Nat.zero_add]; rfl
  | succ m ih => rw [Nat.add_right_comm]; exact ih s.tick

/-- Settles O15: the promotion is in the first tick's closed form. -/
theorem chargePromotesLatch : Obligations.ChargePromotesLatch := by
  intro m n s
  refine ⟨s.charge_charge m n, s.charge_cycles n, ?_⟩
  rw [State.charge_succ]

/-! ### The cost of a step -/

theorem Instr.four_le_cost {n : Nat} (h : i.core.cost s = some n) : 4 ≤ n := by
  rcases exec_runs_or_stops i s with ⟨m, r, hcost, hm, -⟩ | ⟨_, _, _, _, hnone, _⟩
  · cases h.symm.trans hcost
    exact hm
  · exact nomatch hnone.symm.trans h

theorem exec_cycles_le (h : exec i s = .next t) : s.cycles ≤ t.cycles := by
  rcases exec_rowEffect h with ⟨n, -, e⟩ | ⟨f, rfl⟩
  · rw [e.cyc]
    exact Nat.le_add_right _ _
  · exact (s.raise_cycles f).ge

/-- Settles O16: the cost is the row's, which is at least 4, and a fault charges nothing. -/
theorem completedCost : Obligations.CompletedCost := by
  refine ⟨fun i s t h => ?_, fun s t h => ?_⟩
  · obtain ⟨n, hcost, e⟩ := h.rowEffect
    exact ⟨n, hcost, e.cyc, Instr.four_le_cost hcost⟩
  · rcases step_next_cases h with ⟨i, -, hexec⟩ | ⟨f, -, rfl⟩
    · exact exec_cycles_le hexec
    · exact (s.raise_cycles f).ge

/-! ### EI and the instruction after it -/

/-- A step of a live state is an instruction that completes, or raises a fault. -/
theorem step_completes_or_raises (hlive : Live s) (h : step s = .next t) :
    (∃ i, fetchDecode s = .ok i ∧ Completes i s t) ∨ ∃ f, t = s.raise f := by
  rcases step_next_cases h with ⟨i, hd, hexec⟩ | ⟨f, -, rfl⟩
  · rcases exec_rowEffect hexec with ⟨n, -, e⟩ | hf
    · exact .inl ⟨i, hd, hlive, hexec, e.run.trans hlive⟩
    · exact .inr hf
  · exact .inr ⟨f, rfl⟩

/-- What EI leaves in the latches (R402): IME with a pending promotion, and the latch armed. -/
theorem latches_of_exec_ei (h : exec .ei s = .next t) : t.ime = (s.ime || s.imeNext) ∧ t.imeNext = true ∧ t.run = s.run := by
  obtain ⟨-, -, -, -, -, hexec⟩ := latchControl s
  cases hexec.symm.trans h
  exact ⟨rfl, rfl, rfl⟩

/-- DI is decoded from its opcode only. -/
theorem opcode_of_fetchDecode_di (h : fetchDecode s = .ok .di) : peek8 s.pc s = some 0xF3 := by
  obtain ⟨op, bs, hop, hs⟩ := spells_of_fetchDecode h
  obtain rfl : 0xF3 = op := List.head_eq_of_cons_eq hs.encode_eq
  exact hop

/-- Settles O18: EI arms the latch, which the charge of the next instruction promotes; only DI undoes it, and a fault charges
nothing. -/
theorem eiTakesEffectAfterNext : Obligations.EiTakesEffectAfterNext := by
  intro s t u hlive hidle hei hstep
  obtain ⟨hime, himeNext, hrun⟩ := latches_of_exec_ei hei
  rw [hidle, Bool.or_false] at hime
  refine ⟨hime, himeNext, ?_⟩
  rcases step_completes_or_raises (hrun.trans hlive) hstep with ⟨i, hd, h⟩ | ⟨f, rfl⟩
  · obtain ⟨hu, -⟩ := latchesAfterCompletion i t u h
    obtain ⟨-, -, hlive'⟩ := h
    refine ⟨fun _ => ?_, fun hn => absurd hlive' hn⟩
    by_cases hdi : i = .di
    · subst hdi
      exact .inr ⟨opcode_of_fetchDecode_di hd, hu⟩
    · rw [if_neg hdi, himeNext, Bool.or_true, ite_self] at hu
      exact .inl hu
  · exact ⟨fun hl => absurd hl (t.raise_run_ne f),
      fun _ => ⟨(t.raise_ime f).trans hime, (t.raise_imeNext f).trans himeNext⟩⟩

/-! ### The register frame (R49) -/

theorem getReg_raise (s : State) (f : Fault) (r : Reg8) : (s.raise f).getReg r = s.getReg r := by cases r <;> simp

/-- Settles O21: an instruction's effect writes its registers only, and a fault writes none. -/
theorem registerFrame : Obligations.RegisterFrame := by
  intro i s t h
  rcases exec_rowEffect h with ⟨n, -, e⟩ | ⟨f, rfl⟩
  · exact ⟨e.reg, e.sp⟩
  · exact ⟨fun r _ => getReg_raise s f r, fun _ => s.raise_sp f⟩

end Sys2Proof
end

section
/-! SUPPORT. The host (60_exceptions.md R440, R441; 70_reset_and_hazards.md R462): its refused accesses, the image it loads, its
loop body, and the record `lookup` answers. -/

namespace Sys2Proof.Machine

variable {a : Word} {s t u : State}

/-! ### Refused accesses (R441) -/

theorem hostRead_byte_refused (h : peek8 a s = none) :
    hostRead a false s = (none, s.raise (.unmappedAccess a .read s.pc)) := by
  have hr : busRead8 a s = .error (.unmappedAccess a .read s.pc) := busRead8_error.2 ⟨h, rfl⟩
  simp [hostRead, hr, Except.map, answer]

theorem hostWrite_byte_refused (v : Byte) (h : peek8 a s = none) :
    hostWrite a (.w8 v) s = s.raise (.unmappedAccess a .write s.pc) := by
  have hw : busWrite8 a v s = .error (.unmappedAccess a .write s.pc) := busWrite8_error.2 ⟨h, rfl⟩
  simp [hostWrite, hw, commit]

/-- A wide write whose second byte is refused stores neither (R85). -/
theorem hostWrite_word_refused (v : Word) (h : peek8 a s ≠ none) (h' : peek8 (a + 1) s = none) :
    hostWrite a (.w16 v) s = s.raise (.unmappedAccess (a + 1) .write s.pc) := by
  have hx : firstRefusedOf s [(a, .write), (a + 1, .write)] = some (a + 1, .write) :=
    (firstRefusedOf_cons_accepted h).trans (firstRefusedOf_cons_refused h')
  have hw := (memWrite16_performs (s := s) a v).eq_error hx
  simp [hostWrite, hw, commit]

/-! ### The image (R462) -/

/-- A write into the ROM window stores its byte (R73). -/
theorem hostWrite_rom (v : Byte) (h : a.toNat < 0x8000) :
    hostWrite a (.w8 v) s = { s with mem := Memory.write s.mem a.toNat v } := by
  have hw : busWrite8 a v s = .ok { s with mem := Memory.write s.mem a.toNat v } := by
    rw [busWrite8_ok, poke8, slotOf_low s.cfg (by omega)]
  simp [hostWrite, hw, commit]

theorem poke8_hostWrite_rom (v : Byte) (h : a.toNat < 0x8000) : poke8 a v s = some (hostWrite a (.w8 v) s) := by
  rw [hostWrite_rom v h, poke8, slotOf_low s.cfg (by omega)]

/-- No other address shares storage with one of the ROM window (R75). -/
theorem not_sameStorage_rom {cfg : Config} {b : Word} (h : a.toNat < 0x8000) (hne : b ≠ a) : ¬ sameStorage cfg b a := by
  rintro (heq | ⟨-, hfar⟩)
  · exact hne heq
  · omega

/-- The address after one that a ROM byte stands at. -/
theorem toNat_succ_rom (h : a.toNat < 0x8000) : (a + 1).toNat = a.toNat + 1 := by
  have hsucc : (a + 1).toNat = (a.toNat + 1) % 65536 := BitVec.toNat_add a 1
  omega

variable {image : List Byte}

/-- Loading an image into the ROM window changes the storage only. -/
theorem loadImage_frame (hfit : a.toNat + image.length ≤ 0x8000) :
    loadImage a image s = { s with mem := (loadImage a image s).mem } := by
  induction image generalizing a s with
  | nil => rfl
  | cons v vs ih =>
    rw [List.length_cons] at hfit
    rw [loadImage, ih (by rw [toNat_succ_rom (by omega)]; omega), hostWrite_rom v (by omega)]

theorem loadImage_inv (hfit : a.toNat + image.length ≤ 0x8000) (hi : StorageInv s) : StorageInv (loadImage a image s) := by
  induction image generalizing a s with
  | nil => exact hi
  | cons v vs ih =>
    rw [List.length_cons] at hfit
    exact ih (by rw [toNat_succ_rom (by omega)]; omega) (poke8_inv (poke8_hostWrite_rom v (by omega)) hi)

/-- After an image is loaded, its addresses hold its bytes and the others what they held. -/
theorem peek8_loadImage (hfit : a.toNat + image.length ≤ 0x8000) (hi : StorageInv s) (b : Word) :
    peek8 b (loadImage a image s) =
      if a.toNat ≤ b.toNat ∧ b.toNat < a.toNat + image.length then image[b.toNat - a.toNat]? else peek8 b s := by
  induction image generalizing a s with
  | nil => rw [if_neg (by simp)]; rfl
  | cons v vs ih =>
    rw [List.length_cons] at hfit
    have hrom : a.toNat < 0x8000 := by omega
    have hpoke := poke8_hostWrite_rom (s := s) v hrom
    have hsucc := toNat_succ_rom hrom
    rw [loadImage, ih (by omega) (poke8_inv hpoke hi), hsucc, List.length_cons]
    by_cases hb : b = a
    · subst hb
      have hne : b ≠ 0xFFFF := by rintro rfl; exact absurd hrom (by decide)
      rw [if_neg (by omega), if_pos (by omega), Nat.sub_self, peek8_poke8_of_ne hi hne hpoke]
      rfl
    · have hne : b.toNat ≠ a.toNat := fun h => hb (BitVec.eq_of_toNat_eq h)
      rw [poke8_other hpoke (not_sameStorage_rom hrom hb)]
      by_cases hin : a.toNat + 1 ≤ b.toNat ∧ b.toNat < a.toNat + 1 + vs.length
      · rw [if_pos hin, if_pos (by omega), show b.toNat - a.toNat = b.toNat - (a.toNat + 1) + 1 by omega,
          List.getElem?_cons_succ]
      · rw [if_neg hin, if_neg (by omega)]

/-- At construction memory is zero under any parameters (R47). -/
theorem peek8_construction {cfg : Config} (h : Mapped cfg a) : peek8 a { State.reset with cfg := cfg } = some 0x00 := by
  unfold peek8
  cases hs : slotOf cfg a with
  | plain k => rfl
  | ie => rfl
  | unmapped => exact absurd h ((slotOf_eq_unmapped cfg a).1 hs)

/-- The booted state is the one at construction with PC at ENTRY_PC and an image in storage. -/
theorem boot_frame (cfg : Config) (hfit : image.length ≤ 0x8000) :
    boot cfg image = { State.reset with cfg := cfg, pc := cfg.entryPc, mem := (boot cfg image).mem } := by
  have hload := loadImage_frame (a := 0) (s := { State.reset with cfg := cfg }) (image := image) (by simpa using hfit)
  exact congrArg (State.setPC · cfg.entryPc) hload

theorem construction_inv (cfg : Config) : StorageInv { State.reset with cfg := cfg } :=
  ⟨rfl, fun _ h => absurd h List.not_mem_nil⟩

theorem boot_inv (cfg : Config) (hfit : image.length ≤ 0x8000) : StorageInv (boot cfg image) := by
  have hload : StorageInv (loadImage 0 image { State.reset with cfg := cfg }) :=
    loadImage_inv (by simpa using hfit) (construction_inv cfg)
  exact StorageInv_congr rfl rfl hload

/-- After boot the image stands from 0x0000 on, and every other mapped address reads 0x00. -/
theorem peek8_boot {cfg : Config} (hfit : image.length ≤ 0x8000) (h : Mapped cfg a) :
    peek8 a (boot cfg image) = some (image.getD a.toNat 0x00) := by
  have hload := peek8_loadImage (a := 0) (image := image) (by simpa using hfit) (construction_inv cfg) a
  have hboot : peek8 a (boot cfg image) = peek8 a (loadImage 0 image { State.reset with cfg := cfg }) :=
    peek8_congr rfl rfl rfl a
  rw [hboot, hload, peek8_construction h, List.getD_eq_getElem?_getD]
  by_cases hin : a.toNat < image.length <;> simp [hin]

end Sys2Proof.Machine

namespace Sys2Proof

open Machine Host

variable {i : Instr} {s t u : State} {op : Byte} {r : Instruction}

/-- Settles O31: `answer` and `commit` raise the bus's fault in the state of the call. -/
theorem hostAccessIsAtomic : Obligations.HostAccessIsAtomic := by
  intro a s hlive
  have raises := State.raise_of_running hlive
  exact ⟨fun x h => hostRead_byte h,
    fun h v => ⟨by rw [hostRead_byte_refused h, raises], by rw [hostWrite_byte_refused v h, raises]⟩,
    fun h h' v => by rw [hostWrite_word_refused v h h', raises]⟩

/-! ### The loop body (R440) -/

/-- `lookup` is DECODE: the fault of the opcode, or the row's further fetches. -/
theorem lookupStage_eq (op : Byte) (s : State) :
    lookupStage op s = match decodeFault op s.pc with
      | some f => .error f
      | none => decodeRest op (fetchByte s) := by
  unfold lookupStage decodeFault
  cases opClass op <;> rfl

/-- The unused opcodes (R127). -/
theorem mem_of_opClass_unused : ∀ op : Byte, opClass op = .unused →
    op ∈ ([0xD3, 0xDB, 0xDD, 0xE3, 0xE4, 0xEB, 0xEC, 0xED, 0xF4, 0xFC, 0xFD] : List Byte) := by decide

/-- The unimplemented opcodes (R128). -/
theorem mem_of_opClass_unimplemented : ∀ op : Byte, opClass op = .unimplemented →
    op ∈ ([0x10, 0x76, 0xE8] : List Byte) := by decide

/-- An opcode with a fault is a one-byte row that only raises it. -/
theorem primaryEntry_of_decodeFault {f : Fault} (h : decodeFault op s.pc = some f) :
    ∃ i, primaryEntry op = .done i ∧ exec i s = settle s (.error f) := by
  unfold decodeFault at h
  cases hc : opClass op with
  | unused =>
    rw [hc] at h
    cases h
    obtain ⟨i, he, hexec⟩ := primaryEntry_unused (mem_of_opClass_unused op hc)
    exact ⟨i, he, hexec s⟩
  | unimplemented =>
    rw [hc] at h
    cases h
    obtain ⟨i, he, hexec⟩ := primaryEntry_unimplemented (mem_of_opClass_unimplemented op hc)
    exact ⟨i, he, hexec s⟩
  | instruction => rw [hc] at h; cases h
  | escape => rw [hc] at h; cases h

/-- What `lookup` answers: the fault of the opcode or of a fetch raised, or the record of what decode answers. -/
theorem hostLookup_of_ok (h : lookupStage op s = .ok i) : hostLookup op s = (some (record i s), s) := by
  simp [hostLookup, h, Except.map, answer]

theorem hostLookup_of_error {f : Fault} (h : lookupStage op s = .error f) : hostLookup op s = (none, s.raise f) := by
  simp [hostLookup, h, Except.map, answer]

/-- On a live state the host's loop body is one step. -/
theorem hostStep_eq_step (hlive : Live s) : hostStep s = step s := by
  cases hop : peek8 s.pc s with
  | none =>
    rw [step_of_fetch_error hlive (fetchDecode_of_no_opcode hop)]
    simp only [hostStep, hostRead_byte_refused hop, settle_error]
  | some op =>
    simp only [hostStep, hostRead_byte hop]
    cases hf : decodeFault op s.pc with
    | some f =>
      obtain ⟨i, he, hexec⟩ := primaryEntry_of_decodeFault hf
      rw [step_of_done hlive hop he, hexec, hostLookup_of_error (f := f) (by rw [lookupStage_eq, hf])]
      rfl
    | none =>
      cases hd : decodeRest op (fetchByte s) with
      | error f =>
        rw [step_of_fetch_error hlive ((fetchDecode_of_opcode hop).trans hd),
          hostLookup_of_error (f := f) (by rw [lookupStage_eq, hf, hd])]
        rfl
      | ok i =>
        rw [step_of_decoded hlive ((fetchDecode_of_opcode hop).trans hd),
          hostLookup_of_ok (i := i) (by rw [lookupStage_eq, hf, hd])]
        exact execRecord_record s i

/-! ### The record (R133) -/

/-- A record that `lookup` answers is that of an instruction without a fault of its own, and `lookup` changes nothing. -/
theorem record_of_hostLookup (h : hostLookup op s = (some r, t)) :
    t = s ∧ ∃ i bs, r = record i s ∧ Spells (op :: bs) i ∧ ∀ pc, decodeFault op pc = none := by
  cases hl : lookupStage op s with
  | error f => exact nomatch (hostLookup_of_error hl).symm.trans h
  | ok i =>
    cases (hostLookup_of_ok hl).symm.trans h
    rw [lookupStage_eq] at hl
    cases hf : decodeFault op s.pc with
    | some f => rw [hf] at hl; cases hl
    | none =>
      rw [hf] at hl
      obtain ⟨bs, hs⟩ := spells_of_decodeRest hl
      exact ⟨rfl, i, bs, rfl, hs, fun pc => decodeFault_eq_none.2 (decodeFault_eq_none.1 hf)⟩

/-- Of STOP and ADD SP,e encode writes one byte of two; every other row is as long as its encoding (R128). -/
theorem row_length (i : Instr) : i.row.length = (encode i).length ∨ i = .stop ∨ i = .addSPDisp := by
  cases i with
  | stop => exact .inr (.inl rfl)
  | addSPDisp => exact .inr (.inr rfl)
  | _ => exact .inl rfl

theorem length_of_spells {bs : List Byte} (hs : Spells (op :: bs) i) (hf : ∀ pc, decodeFault op pc = none) :
    i.row.length = (encode i).length := by
  rcases row_length i with h | rfl | rfl
  · exact h
  · obtain rfl : 0x10 = op := List.head_eq_of_cons_eq hs.encode_eq
    exact nomatch hf 0
  · obtain rfl : 0xE8 = op := List.head_eq_of_cons_eq hs.encode_eq
    exact nomatch hf 0

theorem recordRuns_of_spells {bs : List Byte} (hs : Spells (op :: bs) i) (hf : ∀ pc, decodeFault op pc = none)
    (s t : State) : RecordRuns i s t := by
  rcases recordRuns_or_recordStops hs.wellFormed s t with h | ⟨op', f, hop, hfault, -⟩
  · exact h
  · obtain rfl : op' = op := List.head_eq_of_cons_eq (hop.symm.trans hs.encode_eq)
    exact nomatch (hf t.pc).symm.trans hfault

/-- The cost of a record is the row's under the condition of `lookup` (R171, R482). -/
theorem record_cost (i : Instr) (s : State) :
    (if (record i s).holds = some false then (record i s).cyclesNotTaken else (record i s).cycles) = i.cost s := by
  unfold Instr.cost
  show (if i.condition.map s.cond = some false then i.row.cyclesNotTaken else i.row.cycles) = _
  cases i.condition with
  | none => rfl
  | some cc => cases h : s.cond cc <;> simp [h]

/-- A record that completes has charged its cost. -/
theorem RecordRuns.cycles (h : RecordRuns i s t) (hexec : execRecord (record i s) t = .next u) (hlive : Live u) :
    ∃ n, i.cost s = some n ∧ u.cycles = t.cycles + n := by
  obtain ⟨n, r, hr⟩ := h
  refine ⟨n, hr.cost, ?_⟩
  have hnext := hr.exec.symm.trans hexec
  rcases settle_next.1 hnext with rfl | ⟨f, -, rfl⟩
  · cases hr.performs with
    | refused _ h => cases h
    | done _ v h hv => cases h; exact hv.2
  · exact absurd hlive (t.raise_run_ne f)

/-- A record whose operand address is refused faults there. -/
theorem RecordRuns.refused {a : Word} (h : RecordRuns i s t) (ha : i.operandAddr s = some a) (hlive : Live t)
    (hm : ¬ Mapped t.cfg a) :
    ∃ k, execRecord (record i s) t = .next { t with run := .faulted (.unmappedAccess a k t.pc) } := by
  obtain ⟨n, r, hr⟩ := h
  have hnone : peek8 a t = none := (peek8_eq_none a t).2 ((slotOf_eq_unmapped _ a).2 hm)
  rcases hr.operand with ho | ho
  · exact nomatch ho.symm.trans ha
  · rw [ha] at ho
    obtain ⟨⟨b, k⟩, hhead, rfl⟩ := Option.map_eq_some_iff.1 ho.symm
    obtain ⟨xs, hxs⟩ := List.head?_eq_some_iff.1 hhead
    have hx : firstRefusedOf t (i.accesses (s.setSP t.sp)) = some (b, k) := by
      rw [hxs, firstRefusedOf_cons_refused hnone]
    exact ⟨k, by rw [hr.exec, hr.performs.eq_error hx, settle_error_of_live hlive]⟩

/-- A body that completes has run to its end. -/
theorem ok_of_instr_live {n : Nat} {body : State → Except Fault State} (h : instr n body t = .next u) (hlive : Live u)
    (hn : 0 < n := by decide) : body (charged n t) = .ok u := by
  rw [instr_next, charge_eq_charged hn] at h
  rcases h with hok | ⟨f, -, rfl⟩
  · exact hok
  · exact absurd hlive (t.raise_run_ne f)

theorem hl_of_loadAStep {move : Word → Word} {ea : Word} {n : Nat} (h : loadAStep move ea (charged n t) = .ok u) :
    u.hl = move t.hl := by
  obtain ⟨v, -, h⟩ := bind_ok.1 h
  cases h
  exact join_hi8_lo8 _

theorem hl_of_storeAStep {move : Word → Word} {ea : Word} {n : Nat} (h : storeAStep move ea (charged n t) = .ok u) :
    u.hl = move t.hl := by
  obtain ⟨w, hw, h⟩ := bind_ok.1 h
  cases h
  exact join_hi8_lo8 _

/-- How a post-effect moves HL (R133). -/
def PostEffect.move : PostEffect → Word → Word
  | .increment => (· + 1)
  | .decrement => (· - 1)

/-- A record with a post-effect moves the HL it finds, whatever address it was made with. -/
theorem hl_of_postEffect {p : PostEffect} (h : i.postEffect = some p) (hexec : execRecord (record i s) t = .next u)
    (hlive : Live u) : u.hl = p.move t.hl := by
  unfold Instr.postEffect at h
  split at h <;> cases h
  · exact hl_of_loadAStep (ok_of_instr_live hexec hlive)
  · exact hl_of_storeAStep (ok_of_instr_live hexec hlive)
  · exact hl_of_loadAStep (ok_of_instr_live hexec hlive)
  · exact hl_of_storeAStep (ok_of_instr_live hexec hlive)

/-! ### The record by family -/

theorem execRecord_ldInstr_reg_atHL (dst : Reg8) (s t : State) :
    execRecord (record (ldInstr (.reg dst) .atHL) s) t = instr 8 (loadR8 (.reg dst) (.mem s.hl)) t := by
  cases dst <;> rfl

theorem execRecord_ldInstr_atHL_reg (src : Reg8) (s t : State) :
    execRecord (record (ldInstr .atHL (.reg src)) s) t = instr 8 (loadR8 (.mem s.hl) (.reg src)) t := by
  cases src <;> rfl

theorem execRecord_jpCcInstr (cc : Cond) (nn : Word) (s t : State) :
    execRecord (record (jpCcInstr cc nn) s) t = instrIf (s.cond cc) 16 12 (jumpTo nn) (skip 3) t := by
  cases cc <;> rfl

theorem execRecord_retCcInstr (cc : Cond) (s t : State) :
    execRecord (record (retCcInstr cc) s) t = instrIf (s.cond cc) 20 8 returnBody (skip 1) t := by
  cases cc <;> rfl

/-- Settles O32: the boot by its writes one after another, the loop body by the stages of a step, and the record by its cost, its
accesses and its shared body. -/
theorem hostBootAndLoop : Obligations.HostBootAndLoop := by
  refine ⟨fun cfg image hfit => ?_, fun s => hostStep_eq_step, fun op r s s' t hlookup => ?_⟩
  · have regs (r : Reg8) : (boot cfg image).getReg r = 0x00 := by
      rw [boot_frame cfg hfit]
      cases r <;> rfl
    have hinv := boot_inv cfg hfit
    have hmem (a : Word) (ha : Mapped cfg a) := peek8_boot hfit ha
    rw [boot_frame cfg hfit] at regs hinv hmem ⊢
    have hf : State.reset.fByte = 0x00 := by decide
    exact ⟨rfl, rfl, rfl, hinv, regs, rfl, hf, rfl, rfl, rfl, hmem⟩
  · obtain ⟨rfl, i, bs, rfl, hs, hf⟩ := record_of_hostLookup hlookup
    have hruns := recordRuns_of_spells hs hf s' t
    refine ⟨rfl, length_of_spells hs hf, fun u hexec _ hlive => ⟨?_, fun hp => ?_, fun hp => ?_⟩,
      fun a => hruns.refused, ?_, ?_, ?_, ?_, ?_, ?_⟩
    · rw [record_cost]
      exact hruns.cycles hexec hlive
    · exact hl_of_postEffect hp hexec hlive
    · exact hl_of_postEffect hp hexec hlive
    · rintro dst v (rfl : i = _) hv
      exact (execRecord_ldInstr_reg_atHL dst s' t).trans (instr_loadR8_reg dst (getR8_mem_charged 8 hv))
    · rintro src u (rfl : i = _) hu
      exact (execRecord_ldInstr_atHL_reg src s' t).trans (instr_loadR8_mem src hu)
    · rintro v (rfl : i = _) hv
      exact instr_loadA hv
    · rintro v (rfl : i = _) hv
      exact instr_loadA hv
    · rintro cc nn (rfl : i = _)
      exact (execRecord_jpCcInstr cc nn s' t).trans (instrIf_of_charged_ok rfl rfl)
    · rintro cc (rfl : i = _) hcond
      rw [hostExecute, execRecord_retCcInstr, hcond, instrIf_false]
      exact instr_skip 1

end Sys2Proof
end
